-- ==== Sys2Proof/Word.lean ====
section
/-! DEFINITION. The two word types of the part that the manual treats as bits: a byte of a telegram or of the
configuration image, and the 16-place register of the check. Everything else is a number, a name or a list. -/

namespace Sys2Proof

/-- One byte: a character of a telegram (R137), a byte of the configuration image (R174), or an 8-bit count that
wraps from 255 to 0 (period sequence and operating epoch, section 3.1 of the scope file). -/
abbrev Byte := BitVec 8

/-- The register of the check (R140) and the alert routing word of the image (R175). -/
abbrev Word16 := BitVec 16

end Sys2Proof
end

