-- ==== Sys2Proof/Syntax.lean ====
section
/-! DEFINITION. The commands of the block: one constructor per row of spec/opcode_table.json, in the table's order,
with what the world outside the part supplies at that event. -/

namespace Sys2Proof

/-- The steps of the part. A telegram is given by its characters as the station reads them: four header bytes, the
body, the two check bytes (R137, R147). `straps` are the levels of ST5 to ST0 with ST5 the most significant bit
(R173). An event of the tu clock carries no time: it falls at the instant its timer gives (log entry 1). -/
inductive Instr where
  /-- POWER_ON: the supply has risen, with the straps as they then stand (R172, R173). -/
  | powerOn (straps : BitVec 6)
  /-- RESET_LINE_ASSERTED: the RESET line is asserted (R19, R172). -/
  | resetLineAsserted
  /-- RESET_LINE_RELEASED: the RESET line is released, with the straps as they then stand (R172, R173). -/
  | resetLineReleased (straps : BitVec 6)
  /-- IMAGE_READ_COMPLETE: the serial memory has delivered the image, byte 1 first (R174, R175). -/
  | imageReadComplete (image : List Byte)
  /-- MEMORY_SILENT: 30 tu after entry to STARTING the image read is incomplete or unacknowledged (R174). -/
  | memorySilent
  /-- SCAN_STROBE: a scan strobe, with FAN and OCC as they then stand, `true` asserted (R3, R6). -/
  | scanStrobe (fan occ : Bool)
  /-- CONVERSION_COMPLETE: the conversion in progress completes; the operand is the voltage, in microvolts, that
  stood on its channel at the instant the conversion started (R1, R9). -/
  | conversionComplete (microvolts : Int)
  /-- PERIOD_EXPIRY (R22). -/
  | periodExpiry
  /-- EVALUATION_COMPLETION (R25). -/
  | evaluationCompletion
  /-- LINE_IDLE: 11 recessive bit times after a window, or 16 in a row while searching (R139). -/
  | lineIdle
  /-- LEAVE_TELEGRAM: a framing fault or an over-long body length in the telegram being followed (R138). -/
  | leaveTelegram
  /-- DEFER: a dominant bit read during a backoff (R142). -/
  | defer
  /-- BACKOFF_END: the last slot of the backoff count has ended (R141). -/
  | backoffEnd
  /-- CONTENTION_LOSS: dominant read in a bit time in which the station sends recessive (R143). -/
  | contentionLoss
  /-- ATTEMPT_OUTCOME: the end of the window of the station's own telegram, with the places that read dominant
  (R144, R145). -/
  | attemptOutcome (repeatPlace stalePlace concurPlace : Bool)
  /-- REPEAT_PAUSE_END: 4096 bit times have run since a REPEAT; the pause begun first ends first (R145). -/
  | repeatPauseEnd
  /-- RECEIVE_DIGEST: the end of a DIGEST telegram of another station (R155). -/
  | receiveDigest (chars : List Byte)
  /-- DIGEST_TAKEN: the digest at the head of the receive queue is taken (R82). -/
  | digestTaken
  /-- RECEIVE_CLAIM: the end and window of a CLAIM telegram (R120). -/
  | receiveClaim (chars : List Byte)
  /-- RECEIVE_QUERY: the end and window of a QUERY telegram (R155). -/
  | receiveQuery (chars : List Byte)
  /-- QUERY_STATUS: the STATUS query at the head of the receive queue is taken (R151, R170). -/
  | queryStatus
  /-- QUERY_FINDINGS: the FINDINGS query at the head of the receive queue is taken (R152, R170). -/
  | queryFindings
  /-- QUERY_NEIGHBOURS: the NEIGHBOURS query at the head of the receive queue is taken (R152, R170). -/
  | queryNeighbours
  /-- ACKNOWLEDGE: the end and window of an ACKNOWLEDGE telegram (R165). -/
  | acknowledge (chars : List Byte)
  /-- RESTART_WARM: the end and window of a RESTART telegram of kind WARM, with the straps as they stand then, read
  only where the restart enters STARTING (R180, R182). -/
  | restartWarm (chars : List Byte) (straps : BitVec 6)
  /-- RESTART_COLD: the end and window of a RESTART telegram of kind COLD, with the straps as they stand then
  (R180, R181). -/
  | restartCold (chars : List Byte) (straps : BitVec 6)
  /-- RECEIVE_FINDING: the end of a FINDING telegram of another station (R155). -/
  | receiveFinding (chars : List Byte)
  /-- RECEIVE_REPLY: the end of a REPLY telegram of another station (R155). -/
  | receiveReply (chars : List Byte)
  /-- START_BIT_READ: a dominant bit read while the line is idle or while a tracking station counts its 11 recessive
  bit times (R139). -/
  | startBitRead
  /-- LINE_FAULT_ON_TRANSMIT: recessive read in a bit time in which the station sends dominant (R143). -/
  | lineFaultOnTransmit
deriving DecidableEq, Repr

end Sys2Proof
end

