-- ==== Sys2Proof/Decode.lean ====
section
/-! DEFINITION. spec/opcode_table.json gives no row any bits: the part's steps are events, not words. So no word spells
a command. -/

namespace Sys2Proof

/-- The command that a word of `nbits` bits spells. The table gives no row a fixed bit or a field, so there is none. -/
def decodeTableWord (_nbits _w : Nat) : Option Instr := none

end Sys2Proof
end

