-- ==== Sys2Proof/Config.lean ====
section
/-! DEFINITION. The one free value of the model: the backoff draw, which R141 leaves open. -/

namespace Sys2Proof.Config

/-- The number behind the `n`-th backoff draw of a run. R141: "Each draw is free: B may be any value from 0 to W − 1,
whatever the earlier draws of this station or the draws of other stations." It has no body, so nothing can be
proved of its value; the line controller takes it modulo W. The counter it is applied to is `Line.draws`.
Log entry 3. -/
opaque backoffDraw : Nat → Nat

end Sys2Proof.Config
end

