-- ==== Sys2Proof/Machine/Operands.lean ====
section
/-! DEFINITION. The operand forms: how the part reads what a command carries. The voltage of a conversion, the levels
of the straps, the characters of a telegram with their check, and the bytes of the configuration image. -/

namespace Sys2Proof.Machine

/-! ### Voltage, straps -/

/-- R1: the code is the input voltage multiplied by 4096 and divided by 2.5 V, floored; an input at or above 2.5 V
gives 4095 and an input at or below 0 V gives 0. -/
def conversionCode (microvolts : Int) : Nat :=
  min 4095 (microvolts.toNat * 4096 / 2500000)

/-- R10: a code below 16 or above 4079 is implausible. -/
def plausibleCode (code : Nat) : Bool := 16 ≤ code && code ≤ 4079

/-- R173: the station number is the six strap readings taken as a binary number. -/
def strapNumber (straps : BitVec 6) : Nat := straps.toNat

/-- R173: numbers 1 to 59 are kept; 0 and 60 to 63 halt the station. -/
def strapValid (n : Nat) : Bool := 1 ≤ n && n ≤ 59

/-! ### The check (R140) -/

/-- The data bits of one character, most significant first (R137). -/
def byteBits (b : Byte) : List Bool :=
  [b.getLsbD 7, b.getLsbD 6, b.getLsbD 5, b.getLsbD 4, b.getLsbD 3, b.getLsbD 2, b.getLsbD 1, b.getLsbD 0]

/-- The data bits of a run of characters, in the order they are sent. -/
def charBits (chars : List Byte) : List Bool := chars.flatMap byteBits

/-- One data bit into the register of the check: the highest place is compared with the bit, the register moves one
place up with a zero into its lowest place, and places 12, 5 and 0 are inverted when the two differed (R140). -/
def checkShift (r : Word16) (bit : Bool) : Word16 :=
  if r.getLsbD 15 = bit then r <<< 1 else (r <<< 1) ^^^ 0x1021#16

/-- The register after a run of data bits, from every place at one (R140). -/
def checkRegister (bits : List Bool) : Word16 := bits.foldl checkShift 0xFFFF#16

/-- The two check characters of a header and body, highest place first (R140). -/
def checkChars (content : List Byte) : List Byte :=
  let r := checkRegister (charBits content)
  [r.extractLsb' 8 8, r.extractLsb' 0 8]

/-- The check passes when the register holds zero after header, body and check characters (R140). -/
def checkPasses (chars : List Byte) : Bool := checkRegister (charBits chars) == 0#16

/-- A header and body followed by its check, as a transmitter sends it (R140, R147). -/
def sealed (content : List Byte) : List Byte := content ++ checkChars content

/-! ### Telegrams (R147) -/

/-- A telegram's header fields and body, without its check. -/
structure Telegram where
  kind : Nat
  source : Nat
  destination : Nat
  body : List Byte
deriving DecidableEq, Repr

/-- Byte `k` of a run of bytes, counted from 1 as the manual counts them, as a number; 0 past the end. -/
def byteAt (bytes : List Byte) (k : Nat) : Nat := (bytes.getD (k - 1) 0#8).toNat

/-- A telegram the station can follow to its window has a body length of at most 40 and 6 + L characters
(R137, R138). -/
def framed (chars : List Byte) : Bool :=
  byteAt chars 4 ≤ 40 && chars.length == 6 + byteAt chars 4

/-- The fields of a framed telegram: bytes 1 to 4 and the body (R147). -/
def readTelegram (chars : List Byte) : Telegram :=
  { kind := byteAt chars 1, source := byteAt chars 2, destination := byteAt chars 3,
    body := (chars.drop 4).take (byteAt chars 4) }

/-- The body length that each kind calls for (R147; for a DIGEST, R155: at least 6 bytes, and 6 plus the zone count
and the holder count of its byte 6). -/
def bodyLengthFits (kind : Nat) (body : List Byte) : Bool :=
  match kind with
  | 1 => 6 ≤ body.length && body.length == 6 + byteAt body 6 / 16 + byteAt body 6 % 16
  | 2 => body.length == 2
  | 3 => body.length == 8
  | 4 => body.length == 2
  | 5 => body.length == 14 || (body.length - 3) % 9 == 0 && 3 ≤ body.length && body.length ≤ 39
          || (body.length - 3) % 8 == 0 && 3 ≤ body.length && body.length ≤ 35
  | 6 => body.length == 2
  | 7 => body.length == 1
  | _ => false

/-- R149: a QUERY's what is 1 to 3, and a RESTART's value is 1 or 2. An ACKNOWLEDGE's kind number is 1 to 7 by R149's
table; that one outside it is ignored, as R155's second row has it, and draws no REPEAT is log entry 25. -/
def valueFits (kind : Nat) (body : List Byte) : Bool :=
  match kind with
  | 4 => 1 ≤ byteAt body 1 && byteAt body 1 ≤ 3
  | 6 => 1 ≤ byteAt body 1 && byteAt body 1 ≤ 7
  | 7 => byteAt body 1 == 1 || byteAt body 1 == 2
  | _ => true

/-- Service terminals are the station numbers 60, 61 and 62 (section 1.3 of the scope file). -/
def isTerminal (n : Nat) : Bool := 60 ≤ n && n ≤ 62

/-- The rows of R155 above the first one that names a telegram to be handled: what is left is a telegram that this
station neither ignores for its form, nor for its destination, nor for its source. -/
def concernsStation (own : Nat) (t : Telegram) : Bool :=
  bodyLengthFits t.kind t.body && valueFits t.kind t.body
    && (t.destination == own || t.destination == 63)
    && !((t.kind == 4 || t.kind == 6 || t.kind == 7) && (!isTerminal t.source || t.destination == 63))
    && !(t.kind == 2 && t.destination == 63)

/-- A quantity of two bytes, more significant first, as a signed value (R137, R148). -/
def signedPair (hi lo : Byte) : Int := (hi ++ lo).toInt

/-- The two bytes of a quantity below 65,536, more significant first (R137). -/
def pairBytes (n : Nat) : List Byte := [BitVec.ofNat 8 (n / 256), BitVec.ofNat 8 n]

/-- The two bytes of a signed quantity, two's complement (R148). -/
def signedBytes (z : Int) : List Byte := pairBytes (BitVec.ofInt 16 z).toNat

/-! ### The configuration image (R175) -/

/-- A quantity of two bytes of the image, at bytes `k` and `k + 1` (R175). -/
def pairAt (image : List Byte) (k : Nat) : Nat := byteAt image k * 256 + byteAt image (k + 1)

/-- The sum of the 64 words of 16 bits of the image (R175). -/
def imageSum (image : List Byte) : Nat :=
  ((List.range 64).map fun k => pairAt image (2 * k + 1)).sum

/-- R175: the sum, taken modulo 65,536, is 0. -/
def imageCheckPasses (image : List Byte) : Bool := imageSum image % 65536 == 0

/-- R176: a value below the range becomes its lower bound, and a value above becomes its upper bound. -/
def clampTo (lo hi n : Nat) : Nat := max lo (min hi n)

end Sys2Proof.Machine
end

