-- ==== Sys2Proof/Machine/State.lean ====
section
/-! DEFINITION. The state of the part, block by block as section 2 of the scope file divides it, and its value before
the first command. INVENTORY.md lists every field with the rule that names it and its reset value. -/

namespace Sys2Proof.Machine

/-! ### Names -/

/-- The nine point roles, numbered 1 to 9 in this order (R2, R60). -/
inductive Role where
  | oat | rat | mat | dat | hvc | cvc | dmc | dmf | spt
deriving DecidableEq, Repr

/-- The candidate kinds, numbered 1 to 7 in this order (R60). -/
inductive Kind where
  | damperStuck | coolLeak | heatLeak | simultHc | hunting | pointFault | crossFight
deriving DecidableEq, Repr

/-- A candidate is identified by its kind and subject together: 0, a role number, or a peer's station number (R60). -/
structure Key where
  kind : Kind
  subject : Nat
deriving DecidableEq, Repr

/-- The result of an assessment for one candidate in one period (R37). -/
inductive Verdict where
  | evidence (gain : Nat)
  | noEvidence
  | notAssessable
deriving DecidableEq, Repr

/-- Candidate state (R60, R66). -/
inductive CandState where
  | clear | suspect | confirmed | recovering
deriving DecidableEq, Repr

/-- Ownership of a pair candidate (R115). -/
inductive Ownership where
  | unheld | claiming | holder | follower
deriving DecidableEq, Repr

/-- Freshness of an entry, derived from its age (R94). -/
inductive Freshness where
  | fresh | aged | lost
deriving DecidableEq, Repr

/-- Status of a finding record (R158). -/
inductive RecordStatus where
  | confirmed | recovering | retired | withdrawn
deriving DecidableEq, Repr

/-- Holder of a finding record (R158). -/
inductive Holder where
  | self
  | partner (station : Nat)
deriving DecidableEq, Repr

/-- A mark in one place of the answer window (R144). -/
inductive Mark where
  | repeatMark | stale | concur
deriving DecidableEq, Repr

/-- How an attempt ended, as its transmitter sees it (R124, R143, R144). -/
inductive AttemptEnd where
  | repeatMark | stale | concur | noMark | contentionLoss
deriving DecidableEq, Repr

/-- Station state (R172, R178, R179). -/
inductive StationState where
  | starting | running | halted
deriving DecidableEq, Repr

/-- Halt cause; `none` outside HALTED (R179, R183). -/
inductive HaltCause where
  | none | strapInvalid | memorySilent | checkFailed | versionUnknown | scanListEmpty
deriving DecidableEq, Repr

/-- Restart cause (R172, R182). -/
inductive RestartCause where
  | power | resetLine | coldRequest | warmRequest
deriving DecidableEq, Repr

/-! ### Loaded configuration (R175 to R177) -/

/-- The twelve parameters, in the order of the parameter table (R175). -/
structure Parameters where
  minSpread : Nat
  oaMin : Nat
  damperTol : Nat
  fbTol : Nat
  closedBand : Nat
  openBand : Nat
  fanRise : Nat
  leakDt : Nat
  fightEffort : Nat
  huntDeadband : Nat
  huntReversals : Nat
  setpointStep : Nat
deriving DecidableEq, Repr

/-- An own zone entry: a zone number and a don't-care count (R77). -/
structure OwnZone where
  zone : Nat
  dontCare : Nat
deriving DecidableEq, Repr

/-- The loaded configuration: taps, role map, scan list, own zone entries in positions 1 to 4, parameters and alert
routing (chapter 10). `roles` gives the role of AIN0 onward, `none` for UNUSED; a dropped zone position is `none`. -/
structure Configuration where
  scanTap : Nat
  periodTap : Nat
  roles : List (Option Role)
  scanList : List Nat
  zones : List (Option OwnZone)
  params : Parameters
  routing : Word16
deriving DecidableEq, Repr

/-! ### Acquisition unit (chapter 1, and the hunting tracker of chapter 3) -/

/-- The counts that a bank holds for one role (R15). -/
structure RoleCounts where
  sum : Nat
  valid : Nat
  invalid : Nat
deriving DecidableEq, Repr

/-- One value for each of the nine roles. -/
structure PerRole (α : Type) where
  oat : α
  rat : α
  mat : α
  dat : α
  hvc : α
  cvc : α
  dmc : α
  dmf : α
  spt : α
deriving DecidableEq, Repr

/-- Fan proven at all taken scans: UNDETERMINED, TRUE or FALSE (R15, R17). -/
inductive FanProven where
  | undetermined | proven | notProven
deriving DecidableEq, Repr

/-- An accumulation bank (R15). OCC at last taken scan is NONE as `none`, ASSERTED as `some true`, NEGATED as
`some false`. -/
structure Bank where
  counts : PerRole RoleCounts
  scansTaken : Nat
  fan : FanProven
  occChanged : Bool
  occLast : Option Bool
  reversals : Nat
deriving DecidableEq, Repr

/-- A sample (R9). -/
structure Sample where
  channel : Nat
  code : Nat
  plausible : Bool
  lastOfScan : Bool
deriving DecidableEq, Repr

/-- A scan in progress: the instant of its strobe, and the list position (from 1) whose conversion is in progress; that
conversion completes 4 × `position` tu after the strobe (R6, R9). -/
structure Scan where
  strobe : Nat
  position : Nat
deriving DecidableEq, Repr

/-- The hunting tracker's direction (section 3.9). -/
inductive Direction where
  | none | up | down
deriving DecidableEq, Repr

/-- The hunting tracker: scan collector, direction and extreme (section 3.9). -/
structure Tracker where
  hvc : Option Nat
  cvc : Option Nat
  direction : Direction
  extreme : Option Int
deriving DecidableEq, Repr

/-- The acquisition unit. `nextScan` is a scan begun by a strobe at the very instant at which the last conversion of
the scan before it completes, that conversion not yet taken (R7). `boundary` is the bank that becomes active at the
expiry of this instant, where a strobe of the same instant was taken before it (R8). Both are the model's own. -/
structure Acquisition where
  scan : Option Scan
  nextScan : Option Nat
  fifo : List Sample
  active : Bank
  frozen : Bank
  boundary : Option Bank
  occRef : Option Bool
  tracker : Tracker
deriving DecidableEq, Repr

/-- The two timers, which start together with one origin (R5, R21): the time in tu since that origin, the instant of
the next scan strobe and the instant of the next period expiry. -/
structure Timers where
  now : Nat
  nextStrobe : Nat
  nextExpiry : Nat
deriving DecidableEq, Repr

/-! ### Period timer and evaluator (chapter 2) -/

/-- A digest's summary of its sender: the published summary of R29, and the last digest of an entry (R80). -/
structure Summary where
  sequence : Byte
  epoch : Byte
  fanProven : Bool
  effortValid : Bool
  effort : Int
  hunting : Bool
deriving DecidableEq, Repr

/-- The evaluator (chapter 2). The references are NONE as `none`; `inFlight` is the completion instant of the
evaluation in flight. -/
structure Evaluator where
  sequence : Byte
  epoch : Byte
  epochChanged : Bool
  firstEvaluation : Bool
  refOcc : Option Bool
  refFan : Option Bool
  refSpt : Option Nat
  inFlight : Option Nat
  summary : Option Summary
deriving DecidableEq, Repr

/-! ### Evidence store (chapter 4) -/

/-- The scored fields of a candidate (R60); last outcome NONE is `none`. -/
structure Scored where
  score : Nat
  state : CandState
  last : Option Verdict
deriving DecidableEq, Repr

/-- A local candidate record (R60), with whether it is active (R61). -/
structure LocalCandidate where
  key : Key
  active : Bool
  scored : Scored
deriving DecidableEq, Repr

/-! ### Neighbour table and pair coordinator (chapters 5, 6 and 7) -/

/-- A neighbour entry (R80), with the fields of its pair candidate. The match set lists own entry positions, rising. -/
structure Entry where
  station : Nat
  matchSet : List Nat
  lastDigest : Summary
  age : Nat
  pair : Scored
  ownership : Ownership
  claimAttempts : Nat
  reservedOwn : Byte
  reservedPeer : Byte
deriving DecidableEq, Repr

/-- The neighbour table block (chapter 5); the own zone entries stand in the loaded configuration. -/
structure NeighbourTable where
  entries : List Entry
  saturated : Bool
  duplicateTimer : Nat
deriving DecidableEq, Repr

/-! ### Line controller (chapter 8) -/

/-- A telegram of the transmit queue, named by what it is (R147, R153). A reply carries the terminal, the query's what
and start index, and for STATUS the flag byte fixed when it was queued (R151). -/
inductive Outgoing where
  | digest
  | claim (peer : Nat)
  | finding (key : Key)
  | reply (terminal what start : Nat) (flags : Byte)
deriving DecidableEq, Repr

/-- A place of the transmit queue: its telegram and its attempt count (R146). -/
structure Queued where
  telegram : Outgoing
  attempts : Nat
deriving DecidableEq, Repr

/-- A digest as the receive queue holds it (R148): its two counts are those of its byte 6. -/
structure Digest where
  summary : Summary
  restart : Bool
  zoneCount : Nat
  holderCount : Nat
  zones : List Nat
  holders : List Nat
deriving DecidableEq, Repr

/-- A telegram of the receive queue (R156). -/
inductive Received where
  | digest (source : Nat) (digest : Digest)
  | query (source what start : Nat)
deriving DecidableEq, Repr

/-- What the line controller follows (R138, R139): SEARCHING; TRACKING a telegram, with its body length once read; or
TRACKING still, its window past, counting 11 recessive bit times. -/
inductive Tracking where
  | searching
  | telegram (bodyLength : Option Nat)
  | afterWindow
deriving DecidableEq, Repr

/-- The attempt on the line: the telegram, the characters gathered at its start (R141), the restart flag and record
status that they carry (R145), and whether the telegram still stands in the queue. It no longer does where it was
withdrawn or replaced while on the line (R119, R154, R161). -/
structure Transmission where
  telegram : Outgoing
  chars : List Byte
  restartFlag : Bool
  status : Option RecordStatus
  inQueue : Bool
deriving DecidableEq, Repr

/-- A claim outcome held during an evaluation (R28). -/
structure HeldOutcome where
  peer : Nat
  outcome : AttemptEnd
deriving DecidableEq, Repr

/-- The line controller (chapter 8). `pauses` lists the queued telegrams whose repeat pause runs, the one begun first
at the head (R145). `mark` is the mark driven in the window of the last telegram heard (log entry 17). `draws` counts
the backoff draws (log entry 3, the model's own). -/
structure Line where
  tracking : Tracking
  idle : Bool
  queue : List Queued
  pauses : List Outgoing
  window : Nat
  backoff : Option Nat
  restartPending : Bool
  received : List Received
  held : List HeldOutcome
  transmission : Option Transmission
  mark : Option Mark
  draws : Nat
deriving DecidableEq, Repr

/-! ### Report unit (chapter 9) -/

/-- A finding record (R158). -/
structure Finding where
  key : Key
  status : RecordStatus
  holder : Holder
  corroborated : Bool
  acknowledged : Bool
  announced : Bool
  reportedActive : Bool
  occurrences : Nat
  peak : Nat
  sequence : Byte
deriving DecidableEq, Repr

/-- The sticky event flags (R169). -/
structure StickyFlags where
  scanOverrun : Bool
  sampleLoss : Bool
  receiveLoss : Bool
  duplicateSeen : Bool
  telegramDiscarded : Bool
  neighbourRefused : Bool
deriving DecidableEq, Repr

/-- The report unit: finding list, sticky flags, and the three output lines, `true` asserted (chapter 9). The alert
routing stands in the loaded configuration. -/
structure Report where
  findings : List Finding
  flags : StickyFlags
  alertA : Bool
  alertB : Bool
  fault : Bool
deriving DecidableEq, Repr

/-! ### Start-up loader (chapter 10) -/

/-- The start-up loader, with whether the supply has risen and whether the RESET line is asserted: in neither case has
STARTING begun (R172). -/
structure Loader where
  supply : Bool
  resetAsserted : Bool
  station : StationState
  halt : HaltCause
  cause : RestartCause
  number : Option Nat
  config : Option Configuration
  version : Nat
deriving DecidableEq, Repr

/-! ### The whole part -/

/-- The part, and the commands that wait, first in first out. -/
structure State where
  acq : Acquisition
  timers : Option Timers
  eval : Evaluator
  locals : List LocalCandidate
  table : NeighbourTable
  line : Line
  report : Report
  loader : Loader
  pending : List Instr
deriving DecidableEq, Repr

/-- Why the part stops. No command of this block stops it: an event that the part's state leaves no room for has no
effect, as the rules say of it. So there is no fault (safe: nothing is claimed of a stop). -/
inductive Fault : Type
deriving DecidableEq, Repr

/-- Why the model gives a command no meaning. -/
inductive Refusal where
  /-- Raised by an arm of `exec` whose command has no meaning yet (safe: the run ends there). No arm raises it. -/
  | notModelled (mnemonic : String)
deriving DecidableEq, Repr

/-! ### Restart values -/

/-- The cleared counts of a role (R15). -/
def RoleCounts.cleared : RoleCounts := ⟨0, 0, 0⟩

/-- A bank in the cleared state (R15). -/
def Bank.cleared : Bank :=
  { counts := ⟨.cleared, .cleared, .cleared, .cleared, .cleared, .cleared, .cleared, .cleared, .cleared⟩
    scansTaken := 0, fan := .undetermined, occChanged := false, occLast := none, reversals := 0 }

/-- The tracker after every restart kind (section 3.9, R55). -/
def Tracker.restart : Tracker := { hvc := none, cvc := none, direction := .none, extreme := none }

/-- The acquisition unit after every restart kind (R20). -/
def Acquisition.restart : Acquisition :=
  { scan := none, nextScan := none, fifo := [], active := .cleared, frozen := .cleared, boundary := none
    occRef := none, tracker := .restart }

/-- The evaluator after power-on, RESET line or cold restart (R36), before RUNNING entry sets the first-evaluation
mark. -/
def Evaluator.cold : Evaluator :=
  { sequence := 0#8, epoch := 0#8, epochChanged := false, firstEvaluation := false
    refOcc := none, refFan := none, refSpt := none, inFlight := none, summary := none }

/-- A candidate at CLEAR, score 0, last outcome NONE (R61, R62, R75). -/
def Scored.cleared : Scored := { score := 0, state := .clear, last := none }

/-- The keys of the 14 local candidates in record order (R60). -/
def localKeys : List Key :=
  [⟨.damperStuck, 0⟩, ⟨.coolLeak, 0⟩, ⟨.heatLeak, 0⟩, ⟨.simultHc, 0⟩, ⟨.hunting, 0⟩,
   ⟨.pointFault, 1⟩, ⟨.pointFault, 2⟩, ⟨.pointFault, 3⟩, ⟨.pointFault, 4⟩, ⟨.pointFault, 5⟩,
   ⟨.pointFault, 6⟩, ⟨.pointFault, 7⟩, ⟨.pointFault, 8⟩, ⟨.pointFault, 9⟩]

/-- The local candidates after every restart kind but warm from RUNNING (R75). -/
def localsCleared : List LocalCandidate := localKeys.map fun k => { key := k, active := false, scored := .cleared }

/-- The neighbour table after every restart kind (R97). -/
def NeighbourTable.restart : NeighbourTable := { entries := [], saturated := false, duplicateTimer := 0 }

/-- The line controller at a restart of any kind (R157), the draws and the last mark aside. Its line is not idle: a
SEARCHING station takes it as idle only after 16 recessive bit times (R139). -/
def Line.restart (draws : Nat) : Line :=
  { tracking := .searching, idle := false, queue := [], pauses := [], window := 8, backoff := none
    restartPending := false, received := [], held := [], transmission := none, mark := none, draws := draws }

/-- All sticky flags clear (R171). -/
def StickyFlags.clear : StickyFlags := ⟨false, false, false, false, false, false⟩

/-- The report unit after power-on, RESET line or cold restart, its lines released (R171). -/
def Report.cold : Report := { findings := [], flags := .clear, alertA := false, alertB := false, fault := false }

/-- The part before its first command: no supply, every block stopped at its power-on values, the lines released, no
command waiting. The first command that can act is POWER_ON. Log entry 2. -/
def State.reset : State :=
  { acq := .restart
    timers := none
    eval := .cold
    locals := localsCleared
    table := .restart
    line := .restart 0
    report := .cold
    loader := { supply := false, resetAsserted := false, station := .starting, halt := .none, cause := .power
                number := none, config := none, version := 0 }
    pending := [] }

end Sys2Proof.Machine
end

