-- ==== Sys2Proof/Machine/Ops.lean ====
section
/-! DEFINITION. The named operations that the commands share: changing one block, reading the loaded configuration, the
clock, role counts and tables, entries by station number, records by key, and the transmit queue. -/

namespace Sys2Proof.Machine

/-! ### Changing one block -/

/-- The acquisition unit changed by `f`, all else as before. -/
def State.modAcq (f : Acquisition → Acquisition) (s : State) : State := { s with acq := f s.acq }
/-- The timers changed by `f`, all else as before. -/
def State.modTimers (f : Option Timers → Option Timers) (s : State) : State := { s with timers := f s.timers }
/-- The evaluator changed by `f`, all else as before. -/
def State.modEval (f : Evaluator → Evaluator) (s : State) : State := { s with eval := f s.eval }
/-- The local candidates changed by `f`, all else as before. -/
def State.modLocals (f : List LocalCandidate → List LocalCandidate) (s : State) : State := { s with locals := f s.locals }
/-- The neighbour table changed by `f`, all else as before. -/
def State.modTable (f : NeighbourTable → NeighbourTable) (s : State) : State := { s with table := f s.table }
/-- The line controller changed by `f`, all else as before. -/
def State.modLine (f : Line → Line) (s : State) : State := { s with line := f s.line }
/-- The report unit changed by `f`, all else as before. -/
def State.modReport (f : Report → Report) (s : State) : State := { s with report := f s.report }
/-- The start-up loader changed by `f`, all else as before. -/
def State.modLoader (f : Loader → Loader) (s : State) : State := { s with loader := f s.loader }

/-! ### Station state -/

/-- The part is held before STARTING: no supply, or the RESET line asserted (R172). -/
def State.stopped (s : State) : Bool := !s.loader.supply || s.loader.resetAsserted

/-- The station is RUNNING. -/
def State.running (s : State) : Bool := !s.stopped && s.loader.station == .running

/-- The station is HALTED. -/
def State.halted (s : State) : Bool := !s.stopped && s.loader.station == .halted

/-- The station is STARTING, its straps read and its image being read (R172 to R174). -/
def State.startingUp (s : State) : Bool := !s.stopped && s.loader.station == .starting

/-- The line controller runs: in RUNNING, and in HALTED with any cause but STRAP_INVALID (R136, R179). -/
def State.lineRuns (s : State) : Bool := s.running || s.halted && s.loader.halt != .strapInvalid

/-- An evaluation is in flight (R24). -/
def State.evaluating (s : State) : Bool := s.eval.inFlight.isSome

/-- The own station number; 0, which names no station, before the straps are read. -/
def State.own (s : State) : Nat := s.loader.number.getD 0

/-! ### The loaded configuration -/

/-- No configuration: nothing mapped, nothing listed. It stands for 'none' of the loaded configuration; a RUNNING
station always has one loaded (R178). -/
def Configuration.absent : Configuration :=
  { scanTap := 0, periodTap := 0, roles := [], scanList := [], zones := []
    params := ⟨0, 0, 0, 0, 0, 0, 0, 0, 0, 0, 0, 0⟩, routing := 0#16 }

/-- The configuration every chapter reads. -/
def State.cfg (s : State) : Configuration := s.loader.config.getD .absent

/-- The scan interval in tu (R5): 32, 64, 128, 256 or 512. -/
def Configuration.scanInterval (c : Configuration) : Nat := 32 * 2 ^ c.scanTap

/-- The period length in tu (R21): 16,384 doubled for each step of the tap. -/
def Configuration.periodLength (c : Configuration) : Nat := 16384 * 2 ^ c.periodTap

/-- The expected scans of a period: the period length divided by the scan interval (R21). -/
def Configuration.expectedScans (c : Configuration) : Nat := c.periodLength / c.scanInterval

/-- The role that a channel carries, if any (R2). -/
def Configuration.roleOf (c : Configuration) (channel : Nat) : Option Role := c.roles.getD channel none

/-- A role is mapped when a channel carries it (R2). -/
def Configuration.mapped (c : Configuration) (r : Role) : Bool := c.roles.contains (some r)

/-- The multiplicity of a role: how many scan list entries name its channel (R4). -/
def Configuration.multiplicity (c : Configuration) (r : Role) : Nat :=
  c.scanList.countP fun channel => c.roleOf channel == some r

/-! ### Numbers of the names -/

/-- Role numbers (R60). -/
def Role.number : Role → Nat
  | .oat => 1 | .rat => 2 | .mat => 3 | .dat => 4 | .hvc => 5 | .cvc => 6 | .dmc => 7 | .dmf => 8 | .spt => 9

/-- The role of a number 1 to 9 (R60); a role byte of 0, or above 9, is UNUSED (R175, R177). -/
def Role.ofNumber : Nat → Option Role
  | 1 => some .oat | 2 => some .rat | 3 => some .mat | 4 => some .dat | 5 => some .hvc | 6 => some .cvc
  | 7 => some .dmc | 8 => some .dmf | 9 => some .spt | _ => none

/-- Candidate kind numbers (R60). -/
def Kind.number : Kind → Nat
  | .damperStuck => 1 | .coolLeak => 2 | .heatLeak => 3 | .simultHc => 4 | .hunting => 5 | .pointFault => 6
  | .crossFight => 7

/-- The kind of a number 1 to 7 (R60). -/
def Kind.ofNumber : Nat → Option Kind
  | 1 => some .damperStuck | 2 => some .coolLeak | 3 => some .heatLeak | 4 => some .simultHc | 5 => some .hunting
  | 6 => some .pointFault | 7 => some .crossFight | _ => none

/-! ### Values per role -/

/-- The value for one role. -/
def PerRole.get {α : Type} (p : PerRole α) : Role → α
  | .oat => p.oat | .rat => p.rat | .mat => p.mat | .dat => p.dat | .hvc => p.hvc | .cvc => p.cvc
  | .dmc => p.dmc | .dmf => p.dmf | .spt => p.spt

/-- The values with the one of role `r` replaced by `v`. -/
def PerRole.set {α : Type} (p : PerRole α) (r : Role) (v : α) : PerRole α :=
  match r with
  | .oat => { p with oat := v } | .rat => { p with rat := v } | .mat => { p with mat := v }
  | .dat => { p with dat := v } | .hvc => { p with hvc := v } | .cvc => { p with cvc := v }
  | .dmc => { p with dmc := v } | .dmf => { p with dmf := v } | .spt => { p with spt := v }

/-! ### The clock -/

/-- The least multiple of `step` that is not below `t`. -/
def nextMultiple (step t : Nat) : Nat := (t + step - 1) / step * step

/-- The instant of the strobe being taken: the one the scan timer gives, or, where the clock has passed it, the next
multiple of the interval (R5; log entry 1). -/
def Timers.strobeInstant (c : Configuration) (t : Timers) : Nat :=
  nextMultiple c.scanInterval (max t.nextStrobe t.now)

/-- The instant of the expiry being taken: the one the period timer gives, or, where the clock has passed it, the next
multiple of the period length (R21; log entry 1). -/
def Timers.expiryInstant (c : Configuration) (t : Timers) : Nat :=
  nextMultiple c.periodLength (max t.nextExpiry t.now)

/-- The clock brought to the instant of an event; it never runs back (log entry 1). -/
def Timers.reach (instant : Nat) (t : Timers) : Timers := { t with now := max t.now instant }

/-- The two timers at RUNNING entry: origin now, first strobe now, first expiry one period on (R5, R21). -/
def Timers.start (c : Configuration) : Timers := { now := 0, nextStrobe := 0, nextExpiry := c.periodLength }

/-! ### Entries and records by name -/

/-- The entry for a station, if the table holds one (R81). -/
def NeighbourTable.find (t : NeighbourTable) (p : Nat) : Option Entry := t.entries.find? fun e => e.station == p

/-- The table with the entry for station `p` changed by `f` (R81: at most one such entry). -/
def NeighbourTable.update (p : Nat) (f : Entry → Entry) (t : NeighbourTable) : NeighbourTable :=
  { t with entries := t.entries.map fun e => if e.station == p then f e else e }

/-- The entry for a station. -/
def State.entry (s : State) (p : Nat) : Option Entry := s.table.find p

/-- The entry for station `p` changed by `f`. -/
def State.modEntry (p : Nat) (f : Entry → Entry) (s : State) : State := s.modTable (.update p f)

/-- The state of a candidate that stands CONFIRMED or RECOVERING. -/
def CandState.confirmedOrRecovering : CandState → Bool
  | .clear => false | .suspect => false | .confirmed => true | .recovering => true

/-- A record is active while its status is CONFIRMED or RECOVERING (R158). -/
def RecordStatus.isActive : RecordStatus → Bool
  | .confirmed => true | .recovering => true | .retired => false | .withdrawn => false

/-- The key of the pair candidate for station `p` (R62). -/
def pairKey (p : Nat) : Key := { kind := .crossFight, subject := p }

/-- The record with a key, if the finding list holds one (R158). -/
def State.record (s : State) (k : Key) : Option Finding := s.report.findings.find? fun f => f.key == k

/-- The scored fields of the candidate with a key, when such a candidate exists (R70). -/
def State.candidate (s : State) (k : Key) : Option Scored :=
  if k.kind == .crossFight then (s.entry k.subject).map Entry.pair
  else (s.locals.find? fun c => c.key == k).map LocalCandidate.scored

/-! ### The transmit queue (section 8.9) -/

/-- A telegram joins the transmit queue at its tail, attempt count 0 (R146, R153). -/
def Line.submit (o : Outgoing) (l : Line) : Line := { l with queue := l.queue ++ [{ telegram := o, attempts := 0 }] }

/-- The queue holds the telegram. -/
def Line.holds (l : Line) (o : Outgoing) : Bool := l.queue.any fun q => q.telegram == o

/-- A telegram leaves the transmit queue, its repeat pause with it, and W returns to 8 (R141, R153). -/
def Line.leave (o : Outgoing) (l : Line) : Line :=
  { l with queue := l.queue.filter fun q => q.telegram != o
           pauses := l.pauses.filter fun p => p != o
           window := 8 }

/-- The telegram is the one on the line, from its place in the queue. -/
def Line.onLine (l : Line) (o : Outgoing) : Bool :=
  match l.transmission with
  | none => false
  | some t => t.inQueue && t.telegram == o

/-- A telegram is withdrawn: a waiting one leaves at once; one on the line is detached, its telegram finishing without
its place in the queue (R119, R153, R161; log entry 8). -/
def Line.withdraw (o : Outgoing) (l : Line) : Line :=
  if l.holds o then
    if l.onLine o then
      { l.leave o with window := l.window, transmission := l.transmission.map fun t => { t with inQueue := false } }
    else l.leave o
  else l

/-- The claim for a peer has an outcome that is held (R28). -/
def Line.isHeld (l : Line) (o : Outgoing) : Bool :=
  match o with
  | .claim p => l.held.any fun h => h.peer == p
  | .digest => false
  | .finding _ => false
  | .reply _ _ _ _ => false

/-- A telegram is eligible unless its repeat pause is running, or it is a claim whose outcome is held (R153). -/
def Line.eligible (l : Line) (o : Outgoing) : Bool := !l.pauses.contains o && !l.isHeld o

/-- The queue is a FINDING's place. -/
def Outgoing.isFinding : Outgoing → Bool
  | .finding _ => true | .digest => false | .claim _ => false | .reply _ _ _ _ => false

/-- The telegram is a REPLY. -/
def Outgoing.isReply : Outgoing → Bool
  | .reply _ _ _ _ => true | .digest => false | .claim _ => false | .finding _ => false

/-- One attempt counted against a telegram (R146). -/
def Line.countAttempt (o : Outgoing) (l : Line) : Line :=
  { l with queue := l.queue.map fun q => if q.telegram == o then { q with attempts := q.attempts + 1 } else q }

/-- The attempt count of a telegram of the queue; 0 where the queue does not hold it. -/
def Line.attemptsOf (l : Line) (o : Outgoing) : Nat :=
  match l.queue.find? fun q => q.telegram == o with
  | none => 0
  | some q => q.attempts

/-- W doubles after a contention loss, up to 64 (R141, R143). -/
def Line.doubleWindow (l : Line) : Line := { l with window := min 64 (2 * l.window) }

/-- The repeat pause of a telegram begins, behind those already running (R145). -/
def Line.startPause (o : Outgoing) (l : Line) : Line := { l with pauses := l.pauses ++ [o] }

/-- When the line is idle, no backoff runs and an eligible telegram exists, a backoff count is drawn from 0 to W − 1
(R141). -/
def Line.beginBackoff (l : Line) : Line :=
  if l.idle && l.backoff.isNone && l.transmission.isNone && l.queue.any fun q => l.eligible q.telegram then
    { l with backoff := some (Config.backoffDraw l.draws % l.window), draws := l.draws + 1 }
  else l

/-- Line access after a command: a telegram that became eligible on an idle line begins a count (R141), where the line
controller runs. -/
def State.access (s : State) : State := if s.lineRuns then s.modLine Line.beginBackoff else s

/-! ### Numbers as bytes -/

/-- A number as one byte of a telegram. -/
def asByte (n : Nat) : Byte := BitVec.ofNat 8 n

/-- A truth value as a bit of a byte, at bit `k`. -/
def bitAt (k : Nat) (b : Bool) : Nat := if b then 2 ^ k else 0

end Sys2Proof.Machine
end

