-- ==== Sys2Proof/Machine/Flags.lean ====
section
/-! DEFINITION. The sticky flags (R169) and the three output lines (R167, R168). -/

namespace Sys2Proof.Machine

/-! ### Sticky flags -/

/-- The sticky flags changed by `f`. -/
def State.modFlags (f : StickyFlags → StickyFlags) (s : State) : State := s.modReport fun r => { r with flags := f r.flags }

/-- SCAN_OVERRUN set (R7). -/
def State.flagScanOverrun (s : State) : State := s.modFlags fun f => { f with scanOverrun := true }
/-- SAMPLE_LOSS set (R13). -/
def State.flagSampleLoss (s : State) : State := s.modFlags fun f => { f with sampleLoss := true }
/-- RECEIVE_LOSS set (R155). -/
def State.flagReceiveLoss (s : State) : State := s.modFlags fun f => { f with receiveLoss := true }
/-- DUPLICATE_SEEN set (R83). -/
def State.flagDuplicateSeen (s : State) : State := s.modFlags fun f => { f with duplicateSeen := true }
/-- TELEGRAM_DISCARDED set (R146). -/
def State.flagTelegramDiscarded (s : State) : State := s.modFlags fun f => { f with telegramDiscarded := true }
/-- NEIGHBOUR_REFUSED set (R91). -/
def State.flagNeighbourRefused (s : State) : State := s.modFlags fun f => { f with neighbourRefused := true }

/-- The flag byte of a STATUS reply (R151, byte 12). -/
def StickyFlags.toByte (f : StickyFlags) : Byte :=
  asByte (bitAt 0 f.scanOverrun + bitAt 1 f.sampleLoss + bitAt 2 f.receiveLoss + bitAt 3 f.duplicateSeen
    + bitAt 4 f.telegramDiscarded + bitAt 5 f.neighbourRefused)

/-! ### Output lines -/

/-- A kind is routed to ALERT_A when its routing is A or both: kind `k` stands in bits 2k − 1 and 2k − 2 of the routing
word, 1 A, 2 B, 3 both (R167, R175). -/
def Configuration.routedToA (c : Configuration) (k : Kind) : Bool := c.routing.getLsbD (2 * k.number - 2)

/-- A kind is routed to ALERT_B when its routing is B or both (R167, R175). -/
def Configuration.routedToB (c : Configuration) (k : Kind) : Bool := c.routing.getLsbD (2 * k.number - 1)

/-- The record's candidate is a pair candidate that is CLAIMING (R167). -/
def State.claimingFor (s : State) (k : Key) : Bool :=
  k.kind == .crossFight && (s.entry k.subject).any fun e => e.ownership == .claiming

/-- A record that drives the lines its kind is routed to: active, holder SELF, unacknowledged, and of a candidate that
is not CLAIMING (R167). -/
def State.alerting (s : State) (f : Finding) : Bool :=
  f.status.isActive && f.holder == .self && !f.acknowledged && !s.claimingFor f.key

/-- The station has entered RUNNING or HALTED, so that its lines follow R167 and R168. -/
def State.linesFollow (s : State) : Bool := s.running || s.halted

/-- The level R167 gives ALERT_A, `true` asserted; released from power-on, while the RESET line is asserted and through
STARTING. -/
def State.alertALevel (s : State) : Bool :=
  s.linesFollow && s.report.findings.any fun f => s.alerting f && s.cfg.routedToA f.key.kind

/-- The level R167 gives ALERT_B. -/
def State.alertBLevel (s : State) : Bool :=
  s.linesFollow && s.report.findings.any fun f => s.alerting f && s.cfg.routedToB f.key.kind

/-- The level R168 gives FAULT: HALTED, the duplicate timer running, or the table saturated; released from power-on,
while the RESET line is asserted and through STARTING. -/
def State.faultLevel (s : State) : Bool :=
  s.linesFollow && (s.halted || 0 < s.table.duplicateTimer || s.table.saturated)

/-- The output lines brought to the levels R167 and R168 give them. -/
def State.driveLines (s : State) : State :=
  s.modReport fun r => { r with alertA := s.alertALevel, alertB := s.alertBLevel, fault := s.faultLevel }

/-- The outcome of a command that has taken effect: the lines follow, and the part goes on. -/
def finish (s : State) : Host.Outcome State Fault Refusal := .next s.driveLines

end Sys2Proof.Machine
end

