-- ==== Sys2Proof/Machine/Acquire.lean ====
section
/-! DEFINITION. The acquisition unit: scan strobes, conversions, the sample FIFO, the accumulation banks and the hunting
tracker (chapter 1, sections 3.9 and 3.10). -/

namespace Sys2Proof.Machine

/-! ### Banks -/

/-- The counts of a role after a sample of it is drained (R15, R16). -/
def RoleCounts.take (x : Sample) (c : RoleCounts) : RoleCounts :=
  if x.plausible then { c with sum := c.sum + x.code, valid := c.valid + 1 }
  else { c with invalid := c.invalid + 1 }

/-- Fan proven at all taken scans after a taken strobe (R17). -/
def FanProven.strobe (fan : Bool) (f : FanProven) : FanProven :=
  if fan then (match f with | .undetermined => .proven | .proven => .proven | .notProven => .notProven)
  else .notProven

/-- A taken strobe in the bank its scan is counted in: the scan counted, FAN and OCC applied, OCC changed set when the
reference differs from the new value (R6, R17, R18). -/
def Bank.strobe (fan occ : Bool) (reference : Option Bool) (b : Bank) : Bank :=
  { b with scansTaken := b.scansTaken + 1
           fan := b.fan.strobe fan
           occChanged := b.occChanged || reference == some (!occ)
           occLast := some occ }

/-! ### The hunting tracker -/

/-- A drained sample offered to the scan collector: a plausible sample of a valve replaces that valve's code (R49). -/
def Tracker.collect (role : Option Role) (x : Sample) (t : Tracker) : Tracker :=
  if x.plausible then
    match role with
    | some .hvc => { t with hvc := some x.code }
    | some .cvc => { t with cvc := some x.code }
    | _ => t
  else t

/-- A valve's code at a scan end: the collector's, 0 when the valve is unmapped, none when a mapped valve has no code
(R50). -/
def valveCode (mapped : Bool) (code : Option Nat) : Option Nat := if mapped then code else some 0

/-- The scan's effort, when every mapped valve has a code in the collector (R50). -/
def Tracker.effort (c : Configuration) (t : Tracker) : Option Int :=
  match valveCode (c.mapped .hvc) t.hvc, valveCode (c.mapped .cvc) t.cvc with
  | some h, some v => some ((h : Int) - (v : Int))
  | _, _ => none

/-- A scan effort applied to the tracker's direction, with whether a reversal is counted (R51, R52). -/
def Tracker.apply (deadband : Nat) (e : Int) (t : Tracker) : Tracker × Bool :=
  match t.extreme with
  | none => ({ t with extreme := some e }, false)
  | some x =>
    match t.direction with
    | .none =>
      if e - x > deadband then ({ t with direction := .up, extreme := some e }, false)
      else if x - e > deadband then ({ t with direction := .down, extreme := some e }, false)
      else (t, false)
    | .up =>
      if e > x then ({ t with extreme := some e }, false)
      else if x - e > deadband then ({ t with direction := .down, extreme := some e }, true)
      else (t, false)
    | .down =>
      if e < x then ({ t with extreme := some e }, false)
      else if e - x > deadband then ({ t with direction := .up, extreme := some e }, true)
      else (t, false)

/-- A scan end: the scan is skipped when a mapped valve has no code, otherwise its effort is applied; in both cases the
collector is then emptied (R50). -/
def Tracker.scanEnd (c : Configuration) (t : Tracker) : Tracker × Bool :=
  let (t, reversal) := match t.effort c with
    | none => (t, false)
    | some e => t.apply c.params.huntDeadband e
  ({ t with hvc := none, cvc := none }, reversal)

/-! ### Drain -/

/-- The drain of one sample into the active bank, and its offer to the tracker (R16, R49 to R53). -/
def Acquisition.drain (c : Configuration) (a : Acquisition) (x : Sample) : Acquisition :=
  let role := c.roleOf x.channel
  let active := match role with
    | none => a.active
    | some r => { a.active with counts := a.active.counts.set r ((a.active.counts.get r).take x) }
  let tracker := a.tracker.collect role x
  if x.lastOfScan then
    let (tracker, reversal) := tracker.scanEnd c
    { a with active := if reversal then { active with reversals := active.reversals + 1 } else active
             tracker := tracker }
  else { a with active := active, tracker := tracker }

/-- Every waiting sample drained in FIFO order (R11, R12). -/
def Acquisition.drainAll (c : Configuration) (a : Acquisition) : Acquisition :=
  a.fifo.foldl (Acquisition.drain c) { a with fifo := [] }

/-! ### SCAN_STROBE -/

/-- Whether a strobe at instant `t` finds the scan in progress: its conversions are not all complete, but a last
conversion that completes at this very instant is not due later than it (R7; log entry 1). -/
def Scan.inProgress (c : Configuration) (t : Nat) (x : Scan) : Bool :=
  !(x.position == c.scanList.length && x.strobe + 4 * x.position == t)

/-- A taken strobe at instant `t` in the acquisition unit. `newPeriod` says that an expiry of the same instant is still
to be taken, so that the scan counts in the bank that becomes active at it (R6, R8, R18). -/
def Acquisition.takeStrobe (fan occ newPeriod : Bool) (t : Nat) (a : Acquisition) : Acquisition :=
  let a := if newPeriod then
      { a with boundary := some ((a.boundary.getD .cleared).strobe fan occ a.occRef) }
    else { a with active := a.active.strobe fan occ a.occRef }
  let a := { a with occRef := some occ }
  match a.scan with
  | none => { a with scan := some { strobe := t, position := 1 } }
  | some _ => { a with nextScan := some t }

/-- A strobe finds a scan in progress, so that it is dropped (R7). -/
def Acquisition.dropsStrobe (c : Configuration) (t : Nat) (a : Acquisition) : Bool :=
  a.nextScan.isSome || a.scan.any (Scan.inProgress c t)

/-- SCAN_STROBE (R6, R7, R8). The scan timer runs in RUNNING alone (R5). -/
def execScanStrobe (fan occ : Bool) (s : State) : Host.Outcome State Fault Refusal :=
  match s.running, s.timers with
  | true, some timers =>
    let t := timers.strobeInstant s.cfg
    let s1 := s.modTimers fun _ => some { timers.reach t with nextStrobe := t + s.cfg.scanInterval }
    if s.acq.dropsStrobe s.cfg t then finish s1.flagScanOverrun
    else finish (s1.modAcq (.takeStrobe fan occ (timers.nextExpiry ≤ t) t))
  | _, _ => .next s

/-! ### CONVERSION_COMPLETE -/

/-- The sample formed at list position `position` from the input voltage (R1, R9, R10). -/
def formSample (c : Configuration) (position : Nat) (microvolts : Int) : Sample :=
  let code := conversionCode microvolts
  { channel := c.scanList.getD (position - 1) 0, code := code, plausible := plausibleCode code
    lastOfScan := position == c.scanList.length }

/-- The sequencer after the conversion at the scan's position completes: the next position, the scan that a strobe of
this instant has already begun, or none (R6, R7, R9). -/
def Acquisition.advance (c : Configuration) (x : Scan) (a : Acquisition) : Acquisition :=
  if x.position < c.scanList.length then { a with scan := some { x with position := x.position + 1 } }
  else { a with scan := a.nextScan.map fun t => { strobe := t, position := 1 }, nextScan := none }

/-- A completed sample joins the FIFO's tail (R11). -/
def Acquisition.push (x : Sample) (a : Acquisition) : Acquisition := { a with fifo := a.fifo ++ [x] }

/-- CONVERSION_COMPLETE (R9 to R14): the sample is lost at a FIFO of 12, otherwise it joins, and while no evaluation is
in flight the FIFO drains at once; the sequencer goes on whatever becomes of the sample. -/
def execConversionComplete (microvolts : Int) (s : State) : Host.Outcome State Fault Refusal :=
  match s.running, s.acq.scan with
  | true, some x =>
    let sample := formSample s.cfg x.position microvolts
    let s1 := (s.modTimers fun t => t.map (Timers.reach (x.strobe + 4 * x.position))).modAcq (.advance s.cfg x)
    if 12 ≤ s.acq.fifo.length then finish s1.flagSampleLoss
    else
      let s2 := s1.modAcq (.push sample)
      finish (if s.evaluating then s2 else s2.modAcq (.drainAll s.cfg))
  | _, _ => .next s

end Sys2Proof.Machine
end

