-- ==== Sys2Proof/Machine/Assess.lean ====
section
/-! DEFINITION. What an evaluation makes of a period record: reliability and means (section 2.3), the operating epoch
(section 2.4), and the air-side assessments (chapter 3). -/

namespace Sys2Proof.Machine

/-! ### Reliability and means (R31, R32) -/

/-- A role is reliable for the period: mapped; scans taken at least half the expected scans, rounded up; valid count at
least half the expected samples, rounded up (R31). -/
def reliable (c : Configuration) (b : Bank) (r : Role) : Bool :=
  c.mapped r
    && (c.expectedScans + 1) / 2 ≤ b.scansTaken
    && (b.scansTaken * c.multiplicity r + 1) / 2 ≤ (b.counts.get r).valid

/-- The mean of a reliable role: sum plus half the valid count, divided by the valid count, half and quotient truncated;
an unreliable role has none (R32). -/
def meanOf (c : Configuration) (b : Bank) (r : Role) : Option Nat :=
  if reliable c b r then
    some (((b.counts.get r).sum + (b.counts.get r).valid / 2) / (b.counts.get r).valid)
  else none

/-- T(x): the mean minus 1280 (R37). -/
def temperature (mean : Nat) : Int := (mean : Int) - 1280

/-- G_fan: TRUE in the period record (R17). -/
def fanProven (b : Bank) : Bool := b.fan == .proven

/-! ### The operating epoch (R33, R34) -/

/-- Two definite values that differ. -/
def definiteChange {α : Type} [DecidableEq α] (a b : Option α) : Bool := a.isSome && b.isSome && a != b

/-- The SPT mean has moved by more than setpoint_step from the SPT reference, both holding (R33, cause 4). -/
def setpointStepped (step : Nat) (mean reference : Option Nat) : Bool :=
  match mean, reference with
  | some m, some r => step < ((m : Int) - (r : Int)).natAbs
  | _, _ => false

/-- At least one cause of R33 holds. -/
def epochCause (c : Configuration) (e : Evaluator) (b : Bank) : Bool :=
  b.occChanged
    || definiteChange b.occLast e.refOcc
    || definiteChange (some (fanProven b)) e.refFan
    || setpointStepped c.params.setpointStep (meanOf c b .spt) e.refSpt
    || e.firstEvaluation

/-- The evaluator after the epoch decision and the update of the references (R33, R35). -/
def Evaluator.decide (c : Configuration) (b : Bank) (e : Evaluator) : Evaluator :=
  { e with epoch := if epochCause c e b then e.epoch + 1 else e.epoch
           epochChanged := epochCause c e b
           firstEvaluation := false
           refOcc := b.occLast
           refFan := some (fanProven b)
           refSpt := meanOf c b .spt }

/-! ### The damper (R39 to R45) -/

/-- The result of a damper path: flagging, assessable and not flagging, or not assessable (R43, R44). -/
inductive PathResult where
  | flags | clears | blind
deriving DecidableEq, Repr

/-- The raw fraction of a spread and a numerator: magnitude rounded to nearest with halves away from zero, the sign the
product of the signs (R40). -/
def rawFraction (num spread : Int) : Int :=
  let q : Int := ((2 * num.natAbs * 1024 + spread.natAbs) / (2 * spread.natAbs) : Nat)
  num.sign * spread.sign * q

/-- The outdoor air fraction of a raw fraction: none for an implausible mix, otherwise clamped to 0 to 1024 (R41). -/
def outdoorFraction (raw : Int) : Option Int :=
  if raw < -64 || 1088 < raw then none else some (max 0 (min 1024 raw))

/-- The expected fraction of a damper command (R42). -/
def expectedFraction (oaMin dmc : Nat) : Nat := oaMin + ((1024 - oaMin) * dmc + 2047) / 4095

/-- Path A (R39, R43). -/
def pathA (c : Configuration) (b : Bank) : PathResult :=
  match meanOf c b .oat, meanOf c b .rat, meanOf c b .mat, meanOf c b .dmc with
  | some oat, some rat, some mat, some dmc =>
    let spread := temperature oat - temperature rat
    let num := temperature mat - temperature rat
    if fanProven b && c.params.minSpread ≤ spread.natAbs then
      match outdoorFraction (rawFraction num spread) with
      | none => .blind
      | some oaf =>
        if c.params.damperTol < (oaf - (expectedFraction c.params.oaMin dmc : Int)).natAbs then .flags else .clears
    else .blind
  | _, _, _, _ => .blind

/-- Path F (R44). -/
def pathF (c : Configuration) (b : Bank) : PathResult :=
  match meanOf c b .dmf, meanOf c b .dmc with
  | some dmf, some dmc => if c.params.fbTol < ((dmf : Int) - (dmc : Int)).natAbs then .flags else .clears
  | _, _ => .blind

/-- The DAMPER_STUCK outcome of the two paths (R45). -/
def damperVerdict : PathResult → PathResult → Verdict
  | .flags, _ => .evidence 64
  | .clears, .flags => .evidence 64
  | .blind, .flags => .evidence 64
  | .clears, .clears => .noEvidence
  | .clears, .blind => .noEvidence
  | .blind, .clears => .noEvidence
  | .blind, .blind => .notAssessable

/-! ### Valve leakage (R46, R47) -/

/-- A valve command counts as closed: unmapped, or reliable with a mean of at most closed_band (R46). -/
def valveClosed (c : Configuration) (b : Bank) (valve : Role) : Bool :=
  !c.mapped valve || (meanOf c b valve).any fun m => m ≤ c.params.closedBand

/-- The leakage residual, in a period in which conditions 1 to 3 of R46 hold (R47). -/
def leakResidual (c : Configuration) (b : Bank) : Option Int :=
  match meanOf c b .mat, meanOf c b .dat with
  | some mat, some dat =>
    if fanProven b && valveClosed c b .hvc && valveClosed c b .cvc then
      some (temperature dat - temperature mat - c.params.fanRise)
    else none
  | _, _ => none

/-- The COOL_LEAK outcome (R46, R47). -/
def coolLeakVerdict (c : Configuration) (b : Bank) : Verdict :=
  match c.mapped .cvc, leakResidual c b with
  | true, some r => if r < -(c.params.leakDt : Int) then .evidence 48 else .noEvidence
  | _, _ => .notAssessable

/-- The HEAT_LEAK outcome (R46, R47). -/
def heatLeakVerdict (c : Configuration) (b : Bank) : Verdict :=
  match c.mapped .hvc, leakResidual c b with
  | true, some r => if r > (c.params.leakDt : Int) then .evidence 48 else .noEvidence
  | _, _ => .notAssessable

/-! ### Simultaneous heating and cooling, hunting, effort, point faults -/

/-- The SIMULT_HC outcome (R48). -/
def simultVerdict (c : Configuration) (b : Bank) (epochChanged : Bool) : Verdict :=
  match meanOf c b .hvc, meanOf c b .cvc with
  | some h, some v =>
    if fanProven b && !epochChanged then
      if c.params.openBand < h && c.params.openBand < v then .evidence 64 else .noEvidence
    else .notAssessable
  | _, _ => .notAssessable

/-- A valve command is unmapped or reliable. -/
def valveUsable (c : Configuration) (b : Bank) (valve : Role) : Bool := !c.mapped valve || reliable c b valve

/-- The effort valid flag: at least one valve command mapped, each mapped one reliable (R57; the same condition stands
in R54). -/
def effortValid (c : Configuration) (b : Bank) : Bool :=
  (c.mapped .hvc || c.mapped .cvc) && valveUsable c b .hvc && valveUsable c b .cvc

/-- The HUNTING outcome (R54). -/
def huntingVerdict (c : Configuration) (b : Bank) (epochChanged : Bool) : Verdict :=
  if effortValid c b && fanProven b && !epochChanged then
    if c.params.huntReversals ≤ b.reversals then .evidence 48 else .noEvidence
  else .notAssessable

/-- The mean effort: heating mean minus cooling mean, an unmapped valve as 0; 0 when effort valid is false (R57). -/
def meanEffort (c : Configuration) (b : Bank) : Int :=
  if effortValid c b then ((meanOf c b .hvc).getD 0 : Int) - ((meanOf c b .cvc).getD 0 : Int) else 0

/-- The POINT_FAULT outcome of a role (R59). -/
def pointVerdict (c : Configuration) (b : Bank) (r : Role) : Verdict :=
  let n := b.counts.get r
  if c.mapped r then
    if 0 < n.invalid && n.valid + n.invalid ≤ 4 * n.invalid then .evidence 128 else .noEvidence
  else .notAssessable

/-- The outcome that the evaluation forms for a local candidate (R38). -/
def localVerdict (c : Configuration) (b : Bank) (epochChanged : Bool) (k : Key) : Verdict :=
  match k.kind with
  | .damperStuck => damperVerdict (pathA c b) (pathF c b)
  | .coolLeak => coolLeakVerdict c b
  | .heatLeak => heatLeakVerdict c b
  | .simultHc => simultVerdict c b epochChanged
  | .hunting => huntingVerdict c b epochChanged
  | .pointFault => (Role.ofNumber k.subject).elim .notAssessable (pointVerdict c b)
  | .crossFight => .notAssessable

/-- The outcome is EVIDENCE. -/
def Verdict.isEvidence : Verdict → Bool
  | .evidence _ => true | .noEvidence => false | .notAssessable => false

/-- The summary of a period: what the evaluation publishes (R29, R56 to R58), `e` being the evaluator after the epoch
decision. -/
def periodSummary (c : Configuration) (b : Bank) (e : Evaluator) : Summary :=
  { sequence := e.sequence, epoch := e.epoch, fanProven := fanProven b, effortValid := effortValid c b
    effort := meanEffort c b, hunting := (huntingVerdict c b e.epochChanged).isEvidence }

end Sys2Proof.Machine
end

