-- ==== Sys2Proof/Machine/Findings.lean ====
section
/-! DEFINITION. The finding list: making, changing, withdrawing and removing records, finding telegrams, and the report
of a sent one (chapter 9). -/

namespace Sys2Proof.Machine

/-! ### Records -/

/-- A record that leaves the list: inactive, acknowledged and announced (R166). -/
def Finding.done (f : Finding) : Bool := !f.status.isActive && f.acknowledged && f.announced

/-- The list with the record of key `k` changed by `f`, and removed if the change leaves it done (R166). -/
def changeRecord (k : Key) (f : Finding → Finding) (l : List Finding) : List Finding :=
  (l.map fun r => if r.key == k then f r else r).filter fun r => !(r.key == k && r.done)

/-- The record of key `k` changed by `f` (R158, R166). -/
def State.modRecord (k : Key) (f : Finding → Finding) (s : State) : State :=
  s.modReport fun r => { r with findings := changeRecord k f r.findings }

/-- The active record of key `k` changed by `f`; an inactive one is left as it is. -/
def State.modActiveRecord (k : Key) (f : Finding → Finding) (s : State) : State :=
  s.modRecord k fun r => if r.status.isActive then f r else r

/-- Room for a new record: of a list that still holds 24 records, the earliest inactive one is removed (R159). -/
def makeRoom (l : List Finding) : List Finding :=
  if 24 ≤ l.length then l.eraseP fun r => !r.status.isActive else l

/-- A new record at the tail for a candidate that has confirmed (R159): an old record of its key is removed and its
occurrences carried on, saturating at 255; room is made; the peak starts at the confirming score. -/
def appendRecord (k : Key) (holder : Holder) (announced : Bool) (score : Nat) (sequence : Byte) (l : List Finding) :
    List Finding :=
  let occurrences := match l.find? fun r => r.key == k with
    | none => 1
    | some old => min 255 (old.occurrences + 1)
  makeRoom (l.filter fun r => r.key != k) ++
    [{ key := k, status := .confirmed, holder := holder, corroborated := false, acknowledged := false
       announced := announced, reportedActive := false, occurrences := occurrences, peak := score
       sequence := sequence }]

/-- A new record in the finding list (R159), with the period sequence as advanced at the expiry that began the
evaluation. -/
def State.newRecord (k : Key) (holder : Holder) (announced : Bool) (score : Nat) (s : State) : State :=
  s.modReport fun r => { r with findings := appendRecord k holder announced score s.eval.sequence r.findings }

/-- RECOVERING to CLEAR: status RETIRED, announced false when the holder is SELF (R160). -/
def Finding.retire (r : Finding) : Finding :=
  { r with status := .retired, announced := if r.holder == .self then false else r.announced }

/-- WITHDRAWN: announced false when the holder is SELF and the record was reported active, true otherwise (R162). -/
def Finding.withdrawn (r : Finding) : Finding :=
  { r with status := .withdrawn, announced := !(r.holder == .self && r.reportedActive) }

/-- The active record of a key becomes WITHDRAWN (R162). A finding telegram that waits for it keeps its place in the
transmit queue, also where the record is withdrawn without having been told (log entry 28). -/
def State.withdrawRecord (k : Key) (s : State) : State := s.modActiveRecord k Finding.withdrawn

/-- The score handed to an active record, which keeps the highest (R69, R160). -/
def State.handScore (k : Key) (score : Nat) (s : State) : State :=
  s.modActiveRecord k fun r => { r with peak := max r.peak score }

/-- What the report unit does with a transition handed over for a key, given the holder and announced fields that a new
record would take (R159, R160). -/
def State.reportTransition (k : Key) (before after : CandState) (score : Nat) (holder : Holder) (announced : Bool)
    (s : State) : State :=
  match before, after with
  | .suspect, .confirmed => s.newRecord k holder announced score
  | .confirmed, .recovering => s.modActiveRecord k fun r => { r with status := .recovering }
  | .recovering, .confirmed => s.modActiveRecord k fun r => { r with status := .confirmed }
  | .recovering, .clear => s.modActiveRecord k Finding.retire
  | _, _ => s

/-! ### Ownership changes of a pair candidate (R161) -/

/-- The record of a pair follows a claim that has been settled: holder SELF, announced false; corroborated becomes true
on CONCUR and is otherwise left (R161). -/
def State.recordSettled (p : Nat) (corroborated : Bool) (s : State) : State :=
  s.modActiveRecord (pairKey p) fun r =>
    { r with holder := .self, announced := false, corroborated := r.corroborated || corroborated }

/-- The record of a pair has holder SELF, its candidate being CLAIMING again; announced is not changed (R161). -/
def State.recordClaiming (p : Nat) (s : State) : State :=
  s.modActiveRecord (pairKey p) fun r => { r with holder := .self }

/-- The record of a pair becomes a follower's record: the partner as holder, announced true; a finding telegram queued
for a record with holder SELF and announced false is withdrawn (R161). -/
def State.recordFollows (p : Nat) (s : State) : State :=
  let untold := s.report.findings.any fun r =>
    r.key == pairKey p && r.status.isActive && r.holder == .self && !r.announced
  let s := if untold then s.modLine (.withdraw (.finding (pairKey p))) else s
  s.modActiveRecord (pairKey p) fun r => { r with holder := .partner p, announced := true }

/-! ### Finding telegrams (R163, R164) -/

/-- The number of finding telegrams in the transmit queue. -/
def Line.findingCount (l : Line) : Nat := l.queue.countP fun q => q.telegram.isFinding

/-- One record looked at: a FINDING is submitted for a record with holder SELF and announced false that has none in the
queue, while fewer than 4 stand there (R163). -/
def Line.announce (l : Line) (r : Finding) : Line :=
  if r.holder == .self && !r.announced && !l.holds (.finding r.key) && l.findingCount < 4 then
    l.submit (.finding r.key)
  else l

/-- The report unit queues finding telegrams, looking at the records in list order (R163). -/
def State.queueFindings (s : State) : State := s.modLine fun l => s.report.findings.foldl Line.announce l

/-- A sent FINDING reported to the report unit with the status it carried (R164). Announced never returns to false:
where the record was withdrawn silently, its first FINDING still on the line, it stays true (log entry 27). -/
def Finding.told (carried : RecordStatus) (r : Finding) : Finding :=
  if r.holder == .self then
    { r with announced := r.announced || carried == r.status || (carried.isActive && r.status.isActive)
             reportedActive := r.reportedActive || carried.isActive }
  else r

/-- The report of a sent FINDING; one that finds no record of its key, or the partner as holder, changes nothing
(R164). -/
def State.findingSent (k : Key) (carried : RecordStatus) (s : State) : State := s.modRecord k (Finding.told carried)

/-! ### Acknowledgement (R165) -/

/-- A record acknowledged (R165), and removed if that leaves it done (R166). -/
def State.acknowledgeRecord (k : Key) (s : State) : State := s.modRecord k fun r => { r with acknowledged := true }

end Sys2Proof.Machine
end

