-- ==== Sys2Proof/Machine/Holding.lean ====
section
/-! DEFINITION. The pair coordinator: queueing, withdrawing and settling claims, answering a partner's claim, holder
lists, and the other ownership events (chapter 7). -/

namespace Sys2Proof.Machine

/-! ### Queueing and withdrawing (R116, R119) -/

/-- A claim is queued for the pair candidate of station `p` when it is CONFIRMED or RECOVERING, the station is RUNNING
and the ownership is UNHELD: the ownership becomes CLAIMING and the claim attempt count 0 (R116), and the change is
handed to the report unit (R161). -/
def State.testClaim (p : Nat) (s : State) : State :=
  match s.entry p with
  | none => s
  | some e =>
    if s.running && e.pair.state.confirmedOrRecovering && e.ownership == .unheld then
      ((s.modLine (.submit (.claim p))).modEntry p fun e => { e with ownership := .claiming, claimAttempts := 0 }).recordClaiming p
    else s

/-- The claim for station `p` is withdrawn: it leaves the queue or is detached on the line, any outcome held for it is
discarded, and the claim attempt count returns to 0 (R119). The ownership is given by the cause. -/
def State.withdrawClaim (p : Nat) (s : State) : State :=
  (s.modLine fun l => { l.withdraw (.claim p) with held := l.held.filter fun h => h.peer != p }).modEntry p
    fun e => { e with claimAttempts := 0 }

/-- The claim of a CLAIMING candidate is withdrawn; any other candidate has none (R118). -/
def State.withdrawIfClaiming (p : Nat) (s : State) : State :=
  if (s.entry p).any fun e => e.ownership == .claiming then s.withdrawClaim p else s

/-- The ownership for station `p` becomes FOLLOWER, a pending own claim being withdrawn, and the record follows the new
holder (R123, R131, R161). -/
def State.becomeFollower (p : Nat) (s : State) : State :=
  ((s.withdrawIfClaiming p).modEntry p fun e => { e with ownership := .follower }).recordFollows p

/-- The ownership for station `p` becomes UNHELD, at which instant a claim may be queued (R116). -/
def State.becomeUnheld (p : Nat) (s : State) : State :=
  (s.modEntry p fun e => { e with ownership := .unheld }).testClaim p

/-- A FOLLOWER becomes UNHELD; every other ownership stays (R87, R94, R132). -/
def State.unfollow (p : Nat) (s : State) : State :=
  if (s.entry p).any fun e => e.ownership == .follower then s.becomeUnheld p else s

/-! ### Settling a claim (R124 to R129) -/

/-- The claim is settled: HOLDER, the claim attempt count 0, the claim out of the queue, and the settlement handed to
the report unit (R126, R127). -/
def State.settleHolder (p : Nat) (corroborated : Bool) (s : State) : State :=
  ((s.modLine (.leave (.claim p))).modEntry p fun e => { e with ownership := .holder, claimAttempts := 0 }).recordSettled
    p corroborated

/-- A STALE outcome: the candidate SUSPECT at 256, UNHELD, count 0, the reservation refreshed, the claim out of the
queue and the active record WITHDRAWN, all in one step (R72, R100, R128). -/
def State.settleStale (p : Nat) (s : State) : State :=
  ((s.modLine (.leave (.claim p))).modEntry p fun e =>
    { e with pair := { e.pair with score := 256, state := .suspect }, ownership := .unheld, claimAttempts := 0
             reservedOwn := s.eval.epoch, reservedPeer := e.lastDigest.epoch }).withdrawRecord (pairKey p)

/-- A contention loss or a REPEAT adds 1 to the claim attempt count and to the telegram's own; at 16 the claim is spent
and settles as HOLDER, uncorroborated, with TELEGRAM_DISCARDED set (R125, R127, R146). A contention loss doubles W
(R143). -/
def State.claimRetry (p : Nat) (lost : Bool) (s : State) : State :=
  let s := (s.modEntry p fun e => { e with claimAttempts := e.claimAttempts + 1 }).modLine (.countAttempt (.claim p))
  let s := if lost then s.modLine Line.doubleWindow else s
  if (s.entry p).any fun e => 16 ≤ e.claimAttempts then (s.settleHolder p false).flagTelegramDiscarded else s

/-- A claim outcome applied to the candidate of station `p`. One that finds its claim withdrawn, or no entry for its
partner, is discarded (R124). -/
def State.applyClaimOutcome (p : Nat) (o : AttemptEnd) (s : State) : State :=
  if (s.entry p).any fun e => e.ownership == .claiming then
    match o with
    | .concur => s.settleHolder p true
    | .noMark => s.settleHolder p false
    | .stale => s.settleStale p
    | .repeatMark => s.claimRetry p false
    | .contentionLoss => s.claimRetry p true
  else s

/-- The outcome of the station's own claim at the end of its attempt: held while an evaluation is in flight, applied at
once otherwise (R28, R124). -/
def State.claimEnded (p : Nat) (o : AttemptEnd) (s : State) : State :=
  if s.evaluating then s.modLine fun l => { l with held := l.held ++ [{ peer := p, outcome := o }] }
  else s.applyClaimOutcome p o

/-- At completion the held outcomes are applied in the order their telegrams finished (R28). -/
def State.applyHeld (s : State) : State :=
  s.line.held.foldl (fun s h => s.applyClaimOutcome h.peer h.outcome) (s.modLine fun l => { l with held := [] })

/-! ### Answering a claim (R120 to R123) -/

/-- The answer to a claim by the state and ownership of the own candidate, when the epochs agree: the mark, if any
(R122). The table pairs HOLDER and CLAIMING with confirmed states alone (R115); for SUSPECT it is read by the ownership
(log entry 9). -/
def answerOf (own claimant : Nat) (state : CandState) (ownership : Ownership) : Option Mark :=
  match state, ownership with
  | .clear, _ => none
  | _, .unheld => some .concur
  | _, .follower => some .concur
  | _, .claiming => some .concur
  | _, .holder => if own < claimant then none else some .concur

/-- The decision on a claim outside an evaluation: no entry for its source, no mark (R120); the partner epoch as seen
differs from the current epoch, STALE (R121); otherwise R122. -/
def State.claimAnswer (source : Nat) (seen : Byte) (s : State) : Option Mark :=
  match s.entry source with
  | none => none
  | some e => if seen != s.eval.epoch then some .stale else answerOf s.own source e.pair.state e.ownership

/-- A CLAIM from `source` decided in its window, with the partner epoch as seen: the mark is driven, and a CONCUR makes
the addressee a FOLLOWER of the claimant (R27, R120 to R123). -/
def State.decideClaim (source : Nat) (seen : Byte) (s : State) : State :=
  if s.evaluating then s.modLine fun l => { l with mark := some .repeatMark }
  else if s.running then
    let answer := s.claimAnswer source seen
    let s := s.modLine fun l => { l with mark := answer }
    if answer == some .concur then s.becomeFollower source else s
  else s

/-! ### Holder lists and restart flags (R87, R130 to R132) -/

/-- The holder list gathered for a digest: the stations of the entries whose ownership is HOLDER, in table order
(R130). -/
def NeighbourTable.holderList (t : NeighbourTable) : List Nat :=
  (t.entries.filter fun e => e.ownership == .holder).map Entry.station

/-- The own number in the holder list of a digest from `p`: FOLLOWER, but a HOLDER with the lower number stays HOLDER
(R131). -/
def State.listedBy (p : Nat) (s : State) : State :=
  match s.entry p with
  | none => s
  | some e =>
    match e.ownership with
    | .unheld => s.becomeFollower p
    | .claiming => s.becomeFollower p
    | .follower => s
    | .holder => if s.own < p then s else s.becomeFollower p

/-- The holder list of a digest from `p`, whose entry stands, is processed (R131, R132). -/
def State.processHolders (p : Nat) (holders : List Nat) (s : State) : State :=
  if holders.contains s.own then s.listedBy p else s.unfollow p

/-! ### Transitions handed to the coordinator (R133) -/

/-- The pair coordinator on a transition of the candidate of station `p`: from RECOVERING to CLEAR, a HOLDER becomes
UNHELD and a CLAIMING claim is withdrawn and UNHELD; then the conditions of R116 are tested. -/
def State.coordinate (p : Nat) (before after : CandState) (s : State) : State :=
  let s : State := match before, after with
    | .recovering, .clear =>
      let released : Bool := (s.entry p).any fun e => e.ownership == .holder || e.ownership == .claiming
      let s := s.withdrawIfClaiming p
      if released then s.modEntry p fun e => { e with ownership := .unheld } else s
    | _, _ => s
  s.testClaim p

end Sys2Proof.Machine
end

