-- ==== Sys2Proof/Machine/Evidence.lean ====
section
/-! DEFINITION. The evidence store: activity, the score update, candidate states, the pair evaluation, and the hand-over
of transitions (chapters 4 and 6). -/

namespace Sys2Proof.Machine

/-! ### Activity (R61) -/

/-- A local candidate is active when the roles it needs are mapped (R61). -/
def candidateActive (c : Configuration) (k : Key) : Bool :=
  match k.kind with
  | .damperStuck => c.mapped .dmc && (c.mapped .oat && c.mapped .rat && c.mapped .mat || c.mapped .dmf)
  | .coolLeak => c.mapped .mat && c.mapped .dat && c.mapped .cvc
  | .heatLeak => c.mapped .mat && c.mapped .dat && c.mapped .hvc
  | .simultHc => c.mapped .hvc && c.mapped .cvc
  | .hunting => c.mapped .hvc || c.mapped .cvc
  | .pointFault => (Role.ofNumber k.subject).any c.mapped
  | .crossFight => false

/-! ### Score and state (R63, R64, R66) -/

/-- The decay of a kind on NO_EVIDENCE (R64). -/
def Kind.decay : Kind → Nat
  | .damperStuck => 32 | .coolLeak => 24 | .heatLeak => 24 | .simultHc => 64 | .hunting => 16 | .pointFault => 64
  | .crossFight => 32

/-- The new score: plus the gain, saturating at 1023; less the decay, not below 0; or held (R63). -/
def nextScore (k : Kind) (v : Verdict) (score : Nat) : Nat :=
  match v with
  | .evidence g => min 1023 (score + g)
  | .noEvidence => score - k.decay
  | .notAssessable => score

/-- The transition test on a new score, at most one transition from the state held before the update (R66, R67). -/
def nextState (state : CandState) (score : Nat) : CandState :=
  match state with
  | .clear => if 256 ≤ score then .suspect else .clear
  | .suspect => if 768 ≤ score then .confirmed else if score ≤ 64 then .clear else .suspect
  | .confirmed => if score ≤ 384 then .recovering else .confirmed
  | .recovering => if 768 ≤ score then .confirmed else if score ≤ 64 then .clear else .recovering

/-- One outcome applied to a candidate: score, state, last outcome (R63, R66). -/
def Scored.update (k : Kind) (v : Verdict) (c : Scored) : Scored :=
  { score := nextScore k v c.score, state := nextState c.state (nextScore k v c.score), last := some v }

/-! ### Local candidates -/

/-- One local candidate at an evaluation; an inactive one discards its outcome (R61, R63). -/
def LocalCandidate.evaluate (c : Configuration) (b : Bank) (epochChanged : Bool) (x : LocalCandidate) : LocalCandidate :=
  if x.active then { x with scored := x.scored.update x.key.kind (localVerdict c b epochChanged x.key) } else x

/-- What the store hands over for a candidate: its key, its state before and after the update, its new score (R69). -/
structure Handed where
  key : Key
  before : CandState
  after : CandState
  score : Nat
deriving DecidableEq, Repr

/-- The hand-over for a local candidate: the report unit acts on the transition, then the new score of a CONFIRMED or
RECOVERING candidate goes to its record (R69, R159, R160). -/
def State.handLocal (s : State) (h : Handed) : State :=
  let s := s.reportTransition h.key h.before h.after h.score .self false
  if h.after.confirmedOrRecovering then s.handScore h.key h.score else s

/-! ### Pair candidates (chapter 6) -/

/-- Freshness of an age (R94). -/
def freshness (age : Nat) : Freshness := if age ≤ 1 then .fresh else if age ≤ 3 then .aged else .lost

/-- The reservation of a FRESH entry is lost: either reserved epoch differs from the current one (R101). -/
def Entry.reservationLost (epoch : Byte) (e : Entry) : Bool :=
  freshness e.age == .fresh && (e.reservedOwn != epoch || e.reservedPeer != e.lastDigest.epoch)

/-- The reservation takes the current epochs (R100). -/
def Entry.refresh (epoch : Byte) (e : Entry) : Entry :=
  { e with reservedOwn := epoch, reservedPeer := e.lastDigest.epoch }

/-- Two efforts are opposite: each at least fight_effort away from zero, in opposite directions (R105). -/
def opposite (fightEffort : Nat) (own peer : Int) : Bool :=
  ((fightEffort : Int) ≤ own && peer ≤ -(fightEffort : Int)) || (own ≤ -(fightEffort : Int) && (fightEffort : Int) ≤ peer)

/-- The pair outcome of an entry, `own` being the station's own summary of the period and `held` whether its
reservation was lost in CONFIRMED or RECOVERING (R104 to R107). -/
def pairVerdict (fightEffort : Nat) (own : Summary) (held : Bool) (e : Entry) : Verdict :=
  if freshness e.age == .fresh && !held && own.effortValid && e.lastDigest.effortValid && own.fanProven
      && e.lastDigest.fanProven then
    if opposite fightEffort own.effort e.lastDigest.effort then
      .evidence (if own.hunting && e.lastDigest.hunting then 80 else 48)
    else .noEvidence
  else .notAssessable

/-- The reservation check on an entry: a lost reservation is refreshed, and a CLEAR or SUSPECT candidate is set to CLEAR
at 0 (R71, R101 to R103). -/
def Entry.checkReservation (epoch : Byte) (e : Entry) : Entry :=
  if e.reservationLost epoch then
    if e.pair.state.confirmedOrRecovering then e.refresh epoch
    else { e.refresh epoch with pair := { e.pair with score := 0, state := .clear } }
  else e

/-- One entry at an evaluation: the reservation check, the outcome, and its application (R98). -/
def Entry.evaluate (fightEffort : Nat) (own : Summary) (e : Entry) : Entry :=
  let held := e.reservationLost own.epoch && e.pair.state.confirmedOrRecovering
  let e := e.checkReservation own.epoch
  { e with pair := e.pair.update .crossFight (pairVerdict fightEffort own held e) }

/-- The state a pair candidate is tested from: CLEAR after a reset (R71, R108). -/
def Entry.testedFrom (epoch : Byte) (e : Entry) : CandState := (e.checkReservation epoch).pair.state

/-- The hand-over for the pair candidate of station `p`: the pair coordinator acts on the transition first, and a new
record takes the ownership that stands then (R69, R133, R159). -/
def State.handPair (s : State) (p : Nat) (h : Handed) : State :=
  let s := s.coordinate p h.before h.after
  let holder := if (s.entry p).any fun e => e.ownership == .follower then Holder.partner p else .self
  let s := s.reportTransition h.key h.before h.after h.score holder true
  if h.after.confirmedOrRecovering then s.handScore h.key h.score else s

/-! ### The whole update -/

/-- What the store hands over for the local candidates, in record order (R69). -/
def localHandover (c : Configuration) (b : Bank) (epochChanged : Bool) (l : List LocalCandidate) : List Handed :=
  l.map fun x =>
    let y := x.evaluate c b epochChanged
    { key := x.key, before := x.scored.state, after := y.scored.state, score := y.scored.score }

/-- What the store hands over for the pair candidates, in table order, with the peer of each (R69, R108). -/
def pairHandover (fightEffort : Nat) (own : Summary) (l : List Entry) : List (Nat × Handed) :=
  l.map fun e =>
    let f := e.evaluate fightEffort own
    (e.station, { key := pairKey e.station, before := e.testedFrom own.epoch, after := f.pair.state, score := f.pair.score })

/-- Local and pair candidates updated from the frozen period record, and the transitions handed over: the local ones in
record order, then the pair ones in table order (R25, R63, R69, R98). `own` is the station's own summary of the
period. -/
def State.updateCandidates (own : Summary) (s : State) : State :=
  let locals := localHandover s.cfg s.acq.frozen s.eval.epochChanged s.locals
  let pairs := pairHandover s.cfg.params.fightEffort own s.table.entries
  let s1 := s.modLocals fun l => l.map (LocalCandidate.evaluate s.cfg s.acq.frozen s.eval.epochChanged)
  let s2 := s1.modTable fun t => { t with entries := t.entries.map (Entry.evaluate s.cfg.params.fightEffort own) }
  pairs.foldl (fun s x => s.handPair x.1 x.2) (locals.foldl State.handLocal s2)

end Sys2Proof.Machine
end

