-- ==== Sys2Proof/Machine/Neighbours.lean ====
section
/-! DEFINITION. The neighbour table: zone matching, the taking of a digest, admission, eviction, refusal, ageing, and
leaving the table (chapter 5). -/

namespace Sys2Proof.Machine

/-! ### Matching (R78, R79) -/

/-- A peer zone matches an own entry: both in 1 to 254, and equal after the low don't-care bits are discarded (R78). -/
def OwnZone.accepts (z : OwnZone) (p : Nat) : Bool :=
  1 ≤ p && p ≤ 254 && p / 2 ^ z.dontCare == z.zone / 2 ^ z.dontCare

/-- The match set of a digest's zones: the own entry positions that one or more of them match, rising (R79). -/
def Configuration.matchSet (c : Configuration) (zones : List Nat) : List Nat :=
  [1, 2, 3, 4].filter fun k => (c.zones.getD (k - 1) none).any fun z => zones.any z.accepts

/-! ### Leaving the table (R95) -/

/-- The pair candidate of an entry ends: the record of a CONFIRMED or RECOVERING one becomes WITHDRAWN (R73). -/
def State.endCandidate (e : Entry) (s : State) : State :=
  if e.pair.state.confirmedOrRecovering then s.withdrawRecord (pairKey e.station) else s

/-- The entry for station `p` leaves the table by removal or eviction: its candidate ends, its claim is withdrawn, the
entries after it move forward, and the saturated condition is cleared (R95). -/
def State.removeEntry (p : Nat) (s : State) : State :=
  match s.entry p with
  | none => s
  | some e =>
    ((s.endCandidate e).withdrawIfClaiming p).modTable fun t =>
      { t with entries := t.entries.filter fun e => e.station != p, saturated := false }

/-! ### Ageing (R93, R94) -/

/-- An entry's age one period on; an age of 255 stays (R93). -/
def Entry.grow (e : Entry) : Entry := { e with age := min 255 (e.age + 1) }

/-- At a period expiry, after the ages have advanced: the entry for `p` is removed at age 240, and one that has just
turned LOST loses a FOLLOWER ownership (R93, R94). -/
def State.settleAge (s : State) (p : Nat) : State :=
  match s.entry p with
  | none => s
  | some e => if 240 ≤ e.age then s.removeEntry p else if e.age == 4 then s.unfollow p else s

/-- The ageing of a period expiry: every age advances, then every entry is examined (R93). No rule orders the entries;
that they are examined in table order, so that the claims of several that turn LOST join the queue in that order, is
log entry 26. -/
def State.ageEntries (s : State) : State :=
  (s.table.entries.map Entry.station).foldl State.settleAge
    (s.modTable fun t => { t with entries := t.entries.map Entry.grow })

/-- The duplicate timer at a period expiry (R84). -/
def State.tickDuplicate (s : State) : State := s.modTable fun t => { t with duplicateTimer := t.duplicateTimer - 1 }

/-! ### Admission (R89 to R92) -/

/-- The entry of a newcomer (R89). -/
def newEntry (epoch : Byte) (source : Nat) (matches_ : List Nat) (d : Summary) : Entry :=
  { station := source, matchSet := matches_, lastDigest := d, age := 0, pair := .cleared, ownership := .unheld
    claimAttempts := 0, reservedOwn := epoch, reservedPeer := d.epoch }

/-- The newcomer joins at the end of table order, which clears the saturated condition (R89). -/
def State.enrol (source : Nat) (matches_ : List Nat) (d : Summary) (s : State) : State :=
  s.modTable fun t => { t with entries := t.entries ++ [newEntry s.eval.epoch source matches_ d], saturated := false }

/-- The entry a newcomer may evict: the LOST entry of greatest age, the earliest in table order among equals (R90). -/
def NeighbourTable.evictable (t : NeighbourTable) : Option Entry :=
  t.entries.foldl (fun best e =>
    if freshness e.age == .lost then
      match best with
      | none => some e
      | some b => if b.age < e.age then some e else some b
    else best) none

/-- A digest refused: NEIGHBOUR_REFUSED set and the table saturated (R91). -/
def State.refuseNeighbour (s : State) : State :=
  (s.modTable fun t => { t with saturated := true }).flagNeighbourRefused

/-- A digest from an unknown peer (R89 to R92), its holder list processed where it is admitted. -/
def State.digestFromUnknown (source : Nat) (matches_ : List Nat) (d : Digest) (s : State) : State :=
  if matches_.isEmpty then s
  else if s.table.entries.length < 8 then (s.enrol source matches_ d.summary).processHolders source d.holders
  else match s.table.evictable with
    | none => s.refuseNeighbour
    | some old => ((s.removeEntry old.station).enrol source matches_ d.summary).processHolders source d.holders

/-- A digest from a known peer (R86 to R88): an empty match set removes the entry; otherwise it is updated, the restart
flag is acted on, and the holder list is processed. -/
def State.digestFromKnown (source : Nat) (matches_ : List Nat) (d : Digest) (s : State) : State :=
  if matches_.isEmpty then s.removeEntry source
  else
    let s := s.modEntry source fun e => { e with matchSet := matches_, lastDigest := d.summary, age := 0 }
    let s := if d.restart then s.unfollow source else s
    s.processHolders source d.holders

/-! ### A digest taken (R82, R83, R85) -/

/-- A digest bearing the own number: DUPLICATE_SEEN set, the duplicate timer 4 (R83). -/
def State.duplicateSeen (s : State) : State := (s.modTable fun t => { t with duplicateTimer := 4 }).flagDuplicateSeen

/-- The work of one digest taken from the receive queue (R82). A HALTED station discards it. -/
def State.takeDigest (source : Nat) (d : Digest) (s : State) : State :=
  if !s.running then s
  else if source == s.own then s.duplicateSeen
  else if source < 1 || 59 < source then s
  else if 4 < d.zoneCount || 8 < d.holderCount then s
  else
    let matches_ := s.cfg.matchSet d.zones
    if (s.entry source).isSome then s.digestFromKnown source matches_ d else s.digestFromUnknown source matches_ d

end Sys2Proof.Machine
end

