-- ==== Sys2Proof/Machine/Telegrams.lean ====
section
/-! DEFINITION. The bodies of the station's own telegrams, gathered at the start of each attempt (section 8.8), the
reading of the received bodies, and the queries (section 9.7). -/

namespace Sys2Proof.Machine

/-! ### Reading bodies (R148) -/

/-- The digest that a DIGEST body carries (R148). -/
def readDigest (body : List Byte) : Digest :=
  let flags := body.getD 2 0#8
  let zoneCount := byteAt body 6 / 16
  let holderCount := byteAt body 6 % 16
  { summary :=
      { sequence := body.getD 0 0#8, epoch := body.getD 1 0#8, fanProven := flags.getLsbD 6
        effortValid := flags.getLsbD 5, effort := signedPair (body.getD 3 0#8) (body.getD 4 0#8)
        hunting := flags.getLsbD 4 }
    restart := flags.getLsbD 7
    zoneCount := zoneCount
    holderCount := holderCount
    zones := ((body.drop 6).take zoneCount).map BitVec.toNat
    holders := ((body.drop (6 + zoneCount)).take holderCount).map BitVec.toNat }

/-! ### Gathering bodies (R117, R130, R148 to R152) -/

/-- The zone numbers of the valid own zone entries in position order (R148). -/
def Configuration.zoneNumbers (c : Configuration) : List Nat := c.zones.filterMap fun z => z.map OwnZone.zone

/-- The DIGEST body (R148). -/
def digestBody (x : Summary) (restart : Bool) (zones holders : List Nat) : List Byte :=
  [x.sequence, x.epoch,
   asByte (bitAt 7 restart + bitAt 6 x.fanProven + bitAt 5 x.effortValid + bitAt 4 x.hunting)]
    ++ signedBytes x.effort
    ++ [asByte (zones.length * 16 + holders.length)]
    ++ zones.map asByte ++ holders.map asByte

/-- Status code of a record (R150). -/
def RecordStatus.code : RecordStatus → Nat
  | .confirmed => 0 | .recovering => 1 | .retired => 2 | .withdrawn => 3

/-- The FINDING body of a record (R150). -/
def findingBody (r : Finding) : List Byte :=
  [asByte r.key.kind.number, asByte r.key.subject, asByte r.status.code, asByte (bitAt 0 r.corroborated),
   asByte r.occurrences] ++ pairBytes r.peak ++ [r.sequence]

/-- Codes of the halt causes (R151). STRAP_INVALID never appears in a reply; its number stands for the gap. -/
def HaltCause.code : HaltCause → Nat
  | .none => 0 | .strapInvalid => 1 | .memorySilent => 2 | .checkFailed => 3 | .versionUnknown => 4
  | .scanListEmpty => 5

/-- Codes of the restart causes (R151). -/
def RestartCause.code : RestartCause → Nat
  | .power => 1 | .resetLine => 2 | .coldRequest => 3 | .warmRequest => 4

/-- Codes of the station state (R151). A STARTING station sends nothing; 1 stands for the gap. -/
def StationState.code : StationState → Nat
  | .starting => 1 | .running => 2 | .halted => 3

/-- The number of active records (R151, R170). -/
def Report.activeCount (r : Report) : Nat := r.findings.countP fun f => f.status.isActive

/-- The REPLY body to a STATUS query (R151), with the flag byte fixed when it was queued. -/
def statusBody (s : State) (flags : Byte) : List Byte :=
  [1#8, 0#8, 1#8, asByte s.loader.station.code, asByte s.loader.halt.code, asByte s.loader.cause.code,
   s.eval.sequence, s.eval.epoch, asByte s.table.entries.length, asByte s.report.activeCount,
   asByte s.report.findings.length, flags, 1#8, asByte s.loader.version]

/-- The last outcome byte of a finding or neighbour record (R152). -/
def lastOutcomeByte : Option Verdict → Byte
  | none => 0#8
  | some (.evidence g) => asByte (64 + g / 16)
  | some .noEvidence => asByte 128
  | some .notAssessable => asByte 192

/-- The holder byte: 0 for SELF (R152). -/
def Holder.code : Holder → Nat
  | .self => 0 | .partner p => p

/-- A finding record of a FINDINGS reply (R152), with the candidate of its key when one exists (R70). -/
def findingRecord (r : Finding) (candidate : Option Scored) : List Byte :=
  let packed := r.peak * 2 ^ 14 + bitAt 13 candidate.isSome + (candidate.elim 0 Scored.score) * 2 ^ 3
  [asByte (r.key.kind.number * 32 + r.status.code * 8 + bitAt 2 r.corroborated + bitAt 1 r.acknowledged
      + bitAt 0 r.announced),
   asByte r.key.subject, asByte r.holder.code, asByte r.occurrences,
   asByte (packed / 2 ^ 16), asByte (packed / 2 ^ 8), asByte packed,
   r.sequence, lastOutcomeByte (candidate.elim none Scored.last)]

/-- Codes of freshness, candidate state and ownership (R152). -/
def Freshness.code : Freshness → Nat
  | .fresh => 0 | .aged => 1 | .lost => 2
/-- Codes of the candidate states (R152). -/
def CandState.code : CandState → Nat
  | .clear => 0 | .suspect => 1 | .confirmed => 2 | .recovering => 3
/-- Codes of the ownerships (R152). -/
def Ownership.code : Ownership → Nat
  | .unheld => 0 | .claiming => 1 | .holder => 2 | .follower => 3

/-- The match set as bits, bit k − 1 for own entry position k (R152). -/
def matchBits (positions : List Nat) : Nat :=
  bitAt 0 (positions.contains 1) + bitAt 1 (positions.contains 2) + bitAt 2 (positions.contains 3)
    + bitAt 3 (positions.contains 4)

/-- A neighbour record of a NEIGHBOURS reply (R96, R152). -/
def neighbourRecord (e : Entry) : List Byte :=
  let packed := e.pair.score * 2 ^ 6 + e.pair.state.code * 2 ^ 4 + e.ownership.code * 2 ^ 2
  [asByte e.station, asByte ((freshness e.age).code * 16 + matchBits e.matchSet), asByte e.age,
   e.lastDigest.sequence, e.lastDigest.epoch, asByte (packed / 2 ^ 8), asByte packed, lastOutcomeByte e.pair.last]

/-- The REPLY body to a FINDINGS query: up to 4 records in list order from the start index (R152). -/
def findingsBody (s : State) (start : Nat) : List Byte :=
  [2#8, asByte start, asByte s.report.findings.length]
    ++ ((s.report.findings.drop start).take 4).flatMap fun r => findingRecord r (s.candidate r.key)

/-- The REPLY body to a NEIGHBOURS query: up to 4 entries in table order from the start index (R96, R152). -/
def neighboursBody (s : State) (start : Nat) : List Byte :=
  [3#8, asByte start, asByte s.table.entries.length]
    ++ ((s.table.entries.drop start).take 4).flatMap neighbourRecord

/-- The REPLY body to a query, gathered now (R151, R152). -/
def replyBody (s : State) (what start : Nat) (flags : Byte) : List Byte :=
  match what with
  | 1 => statusBody s flags
  | 2 => findingsBody s start
  | _ => neighboursBody s start

/-- Header and body of a telegram of this station (R147). -/
def headed (kind source destination : Nat) (body : List Byte) : List Byte :=
  [asByte kind, asByte source, asByte destination, asByte body.length] ++ body

/-- What an attempt carries for the telegram: its characters, the check with them, and the restart flag and record
status they bear (R141, R145). None when there is nothing to gather from: a FINDING whose record has gone (R150); a
CLAIM without its entry or a DIGEST without a summary, which the rules do not let stand in the queue (log entry 10). -/
def State.gather (s : State) (o : Outgoing) : Option Transmission :=
  match o with
  | .digest => s.eval.summary.map fun x =>
      { telegram := o, restartFlag := s.line.restartPending, status := none, inQueue := true
        chars := sealed (headed 1 s.own 63 (digestBody x s.line.restartPending s.cfg.zoneNumbers s.table.holderList)) }
  | .claim p => (s.entry p).map fun e =>
      { telegram := o, restartFlag := false, status := none, inQueue := true
        chars := sealed (headed 2 s.own p [s.eval.epoch, e.reservedPeer]) }
  | .finding k => (s.record k).map fun r =>
      { telegram := o, restartFlag := false, status := some r.status, inQueue := true
        chars := sealed (headed 3 s.own 63 (findingBody r)) }
  | .reply terminal what start flags => some
      { telegram := o, restartFlag := false, status := none, inQueue := true
        chars := sealed (headed 5 s.own terminal (replyBody s what start flags)) }

/-! ### Queries (R170) -/

/-- A STATUS query: a REPLY is submitted, the sticky flags copied into it and cleared, RUNNING or HALTED (R169, R170).
The reply's start byte is 0 whatever the query's (R151). -/
def State.answerStatus (source : Nat) (s : State) : State :=
  (s.modLine (.submit (.reply source 1 0 s.report.flags.toByte))).modFlags fun _ => .clear

/-- A FINDINGS or NEIGHBOURS query: a REPLY is submitted by a RUNNING station, nothing by a HALTED one (R170). -/
def State.answerList (source what start : Nat) (s : State) : State :=
  if s.running then s.modLine (.submit (.reply source what start 0#8)) else s

/-- A query taken by the report unit (R170). -/
def State.takeQuery (source what start : Nat) (s : State) : State :=
  if what == 1 then s.answerStatus source else s.answerList source what start

/-- One telegram taken from the receive queue (R156). -/
def State.takeOne (s : State) (t : Received) : State :=
  match t with
  | .digest source d => s.takeDigest source d
  | .query source what start => s.takeQuery source what start

/-- Every telegram of the receive queue taken in arrival order, the work of one done before the next (R156). -/
def State.takeReceived (s : State) : State :=
  s.line.received.foldl State.takeOne (s.modLine fun l => { l with received := [] })

/-- The telegram at the head of the receive queue leaves it. -/
def State.popReceived (s : State) : State := s.modLine fun l => { l with received := l.received.tail }

/-- Telegrams are taken from the receive queue: the line controller runs and no evaluation is in flight (R156). -/
def State.takes (s : State) : Bool := s.lineRuns && !s.evaluating

/-- DIGEST_TAKEN (R82): the digest at the head of the receive queue is taken. -/
def execDigestTaken (s : State) : Host.Outcome State Fault Refusal :=
  match s.takes, s.line.received with
  | true, .digest source d :: _ => finish ((s.popReceived.takeDigest source d).access)
  | _, _ => .next s

/-- QUERY_STATUS (R151, R170): the STATUS query at the head of the receive queue is taken. -/
def execQueryStatus (s : State) : Host.Outcome State Fault Refusal :=
  match s.takes, s.line.received with
  | true, .query source 1 _ :: _ => finish ((s.popReceived.answerStatus source).access)
  | _, _ => .next s

/-- QUERY_FINDINGS (R152, R170): the FINDINGS query at the head of the receive queue is taken. -/
def execQueryFindings (s : State) : Host.Outcome State Fault Refusal :=
  match s.takes, s.line.received with
  | true, .query source 2 start :: _ => finish ((s.popReceived.answerList source 2 start).access)
  | _, _ => .next s

/-- QUERY_NEIGHBOURS (R152, R170): the NEIGHBOURS query at the head of the receive queue is taken. -/
def execQueryNeighbours (s : State) : Host.Outcome State Fault Refusal :=
  match s.takes, s.line.received with
  | true, .query source 3 start :: _ => finish ((s.popReceived.answerList source 3 start).access)
  | _, _ => .next s

end Sys2Proof.Machine
end

