-- ==== Sys2Proof/Machine/Line.lean ====
section
/-! DEFINITION. The line controller following the line, gaining access to it, and carrying an attempt to its end
(sections 8.2, 8.4 to 8.7). -/

namespace Sys2Proof.Machine

/-! ### Following the line (R138, R139) -/

/-- A dominant bit read now is the start bit of a telegram: the line is idle, or the station is TRACKING with its window
past (R139). -/
def Line.startBitDue (l : Line) : Bool := l.idle || l.tracking == .afterWindow

/-- The station becomes TRACKING from a start bit, the line is busy, and a backoff ends without an attempt (R139,
R142). -/
def Line.follow (l : Line) : Line :=
  { l with tracking := .telegram none, idle := false, backoff := none }

/-- LINE_IDLE (R139, R141): a TRACKING station past the window, or a SEARCHING one, takes the line as idle, and a
backoff count begins when an eligible telegram exists. Inside a telegram the line does not fall idle. -/
def execLineIdle (s : State) : Host.Outcome State Fault Refusal :=
  if s.lineRuns && !s.line.idle && (s.line.tracking == .afterWindow || s.line.tracking == .searching) then
    finish ((s.modLine fun l => { l with idle := true }).access)
  else .next s

/-- START_BIT_READ (R139). A SEARCHING station on a busy line ignores it; inside a telegram it is a bit like any other. -/
def execStartBitRead (s : State) : Host.Outcome State Fault Refusal :=
  if s.lineRuns && s.line.startBitDue then finish (s.modLine Line.follow) else .next s

/-- DEFER (R142): a dominant bit read during a backoff ends it without an attempt; no count and not W changes. -/
def execDefer (s : State) : Host.Outcome State Fault Refusal :=
  if s.lineRuns && s.line.backoff.isSome then finish (s.modLine Line.follow) else .next s

/-- The station is following a telegram of another station. -/
def Line.following (l : Line) : Bool :=
  l.transmission.isNone && (match l.tracking with
    | .telegram _ => true
    | .searching => false
    | .afterWindow => false)

/-- LEAVE_TELEGRAM (R138): the telegram being followed is left and the station is SEARCHING. A transmitter handles a
fault in its own telegram under R143. -/
def execLeaveTelegram (s : State) : Host.Outcome State Fault Refusal :=
  if s.lineRuns && s.line.following then finish (s.modLine fun l => { l with tracking := .searching }) else .next s

/-! ### Beginning an attempt (R141, R142, R150) -/

/-- At the end of a count: the telegrams to drop, which stand first among the eligible ones with nothing to gather from,
and the attempt that then begins, if any (R142, R150). -/
def State.choose (s : State) : List Queued → List Outgoing × Option Transmission
  | [] => ([], none)
  | q :: rest =>
    if s.line.eligible q.telegram then
      match s.gather q.telegram with
      | some t => ([], some t)
      | none => let (gone, t) := s.choose rest; (q.telegram :: gone, t)
    else s.choose rest

/-- The line taken by an attempt: the line is busy, and the transmitter is TRACKING its own telegram (R139, R141). -/
def Line.begin (t : Transmission) (l : Line) : Line :=
  { l with transmission := some t, idle := false, tracking := .telegram (some (byteAt t.chars 4)) }

/-- BACKOFF_END (R141, R142): the backoff is over; telegrams whose record has gone are dropped, W returning to 8; the
next eligible telegram's content is gathered and its attempt begins, or none does and the line stays idle. -/
def execBackoffEnd (s : State) : Host.Outcome State Fault Refusal :=
  if s.lineRuns && s.line.backoff.isSome then
    let (gone, attempt) := s.choose s.line.queue
    let s1 := s.modLine fun l => gone.foldl (fun l o => l.leave o) { l with backoff := none }
    match attempt with
    | none => finish s1
    | some t => finish (s1.modLine (.begin t))
  else .next s

/-! ### The end of an attempt (R143 to R146) -/

/-- The outcome the transmitter reads from the three places, by their precedence (R144). -/
def readWindow (repeatPlace stalePlace concurPlace : Bool) : AttemptEnd :=
  if repeatPlace then .repeatMark else if stalePlace then .stale else if concurPlace then .concur else .noMark

/-- The attempt is over: nothing of the station's is on the line. -/
def Line.endAttempt (tracking : Tracking) (l : Line) : Line := { l with transmission := none, tracking := tracking }

/-- A DIGEST, FINDING or REPLY whose attempt counts: at 16 it is spent, leaves the queue and sets TELEGRAM_DISCARDED
(R146). -/
def State.countOrSpend (o : Outgoing) (s : State) : State :=
  let s := s.modLine (.countAttempt o)
  if 16 ≤ s.line.attemptsOf o then (s.modLine (.leave o)).flagTelegramDiscarded else s

/-- A sent DIGEST that carried the restart flag clears the restart pending mark (R145). -/
def Line.restartTold (t : Transmission) (l : Line) : Line :=
  { l with restartPending := l.restartPending && !t.restartFlag }

/-- A sent telegram leaves the queue and does what its kind calls for (R145, R163, R164). -/
def State.sent (t : Transmission) (s : State) : State :=
  match t.telegram with
  | .digest => s.modLine fun l => (l.leave .digest).restartTold t
  | .finding k =>
    let s := s.modLine (.leave (.finding k))
    let s := match t.status with
      | none => s
      | some carried => s.findingSent k carried
    s.queueFindings
  | .reply terminal what start flags => s.modLine (.leave (.reply terminal what start flags))
  | .claim _ => s

/-- The window of an attempt whose telegram no longer stands in the queue. A digest replaced while on the line clears
the mark and returns W to 8 if sent, and changes nothing on a REPEAT (R154); a withdrawn claim or finding telegram is
discarded, W returning to 8, and a sent finding telegram is still an occasion of R163 (R119, R153, R161). -/
def State.detachedWindow (t : Transmission) (e : AttemptEnd) (s : State) : State :=
  match t.telegram with
  | .digest => if e == .repeatMark then s else s.modLine fun l => { l.restartTold t with window := 8 }
  | .finding _ =>
    let s := s.modLine fun l => { l with window := 8 }
    if e == .repeatMark then s else s.queueFindings
  | .claim _ => s.modLine fun l => { l with window := 8 }
  | .reply _ _ _ _ => s.modLine fun l => { l with window := 8 }

/-- The window of an attempt whose telegram stands in the queue (R145). The repeat pause runs from the end of the window
even where a claim's outcome is held. -/
def State.queuedWindow (t : Transmission) (e : AttemptEnd) (s : State) : State :=
  match t.telegram with
  | .claim p => ((if e == .repeatMark then s.modLine (.startPause (.claim p)) else s).claimEnded p e)
  | o =>
    if e == .repeatMark then (s.modLine (.startPause o)).countOrSpend o else s.sent t

/-- ATTEMPT_OUTCOME (R144 to R146): the window of the station's own telegram has ended with these places dominant. -/
def execAttemptOutcome (repeatPlace stalePlace concurPlace : Bool) (s : State) : Host.Outcome State Fault Refusal :=
  match s.lineRuns, s.line.transmission with
  | true, some t =>
    let e := readWindow repeatPlace stalePlace concurPlace
    let s1 := s.modLine (.endAttempt .afterWindow)
    finish (if t.inQueue then s1.queuedWindow t e else s1.detachedWindow t e)
  | _, _ => .next s

/-- A contention loss counted: a CLAIM by the pair coordinator, held during an evaluation (R28, R143); any other
telegram at once, W doubling unless it is spent. A digest replaced on the line counts nothing and W doubles (R154); a
withdrawn claim or finding telegram is discarded, W returning to 8. -/
def State.attemptLost (t : Transmission) (s : State) : State :=
  match t.inQueue, t.telegram with
  | true, .claim p => s.claimEnded p .contentionLoss
  | true, o => (s.modLine Line.doubleWindow).countOrSpend o
  | false, .digest => s.modLine Line.doubleWindow
  | false, _ => s.modLine fun l => { l with window := 8 }

/-- CONTENTION_LOSS (R143): the line is released, the station follows the winning telegram, and the loss counts. -/
def execContentionLoss (s : State) : Host.Outcome State Fault Refusal :=
  match s.lineRuns, s.line.transmission with
  | true, some t => finish ((s.modLine (.endAttempt (.telegram none))).attemptLost t)
  | _, _ => .next s

/-- LINE_FAULT_ON_TRANSMIT (R143): the line is released, the station is SEARCHING, and the attempt counts as a
contention loss. -/
def execLineFaultOnTransmit (s : State) : Host.Outcome State Fault Refusal :=
  match s.lineRuns, s.line.transmission with
  | true, some t => finish ((s.modLine (.endAttempt .searching)).attemptLost t)
  | _, _ => .next s

/-- REPEAT_PAUSE_END (R145): the pause begun first has run its 4096 bit times, and its telegram is eligible again. -/
def execRepeatPauseEnd (s : State) : Host.Outcome State Fault Refusal :=
  if s.lineRuns && !s.line.pauses.isEmpty then
    finish ((s.modLine fun l => { l with pauses := l.pauses.tail }).access)
  else .next s

end Sys2Proof.Machine
end

