-- ==== Sys2Proof/Machine/Receive.lean ====
section
/-! DEFINITION. The receive side: the decision on a telegram at the end of its check and in its window (section 8.10),
with the claims, acknowledgements and queries that come that way. Restart requests stand in Startup.lean. -/

namespace Sys2Proof.Machine

/-! ### Hearing a telegram -/

/-- The station is placed to receive a telegram: its line controller runs, nothing of its own is on the line, and it is
not SEARCHING on a busy line (R138, R139, R155). On an idle line, or past a window, the telegram's own start bit makes
it TRACKING (log entry 5). A telegram that it does not hear draws no mark and leaves `Line.mark` as it stands (log
entry 17). -/
def State.listening (s : State) : Bool :=
  s.lineRuns && s.line.transmission.isNone && (s.line.idle || s.line.tracking != .searching)

/-- A telegram has been followed to the end of its window, without a mark as yet: its start bit ended any backoff, and
the station counts its 11 recessive bit times (R139, R142). -/
def Line.heard (l : Line) : Line :=
  { l with tracking := .afterWindow, idle := false, backoff := none, mark := none }

/-- One place of the window is driven (R144). -/
def State.driveMark (m : Mark) (s : State) : State := s.modLine fun l => { l with mark := some m }

/-- A telegram received, with what becomes of one of kind `kind` that concerns this station (R155). A run of characters
that is no framed telegram is left (R138); a failed check earns REPEAT when the destination byte as read is the own
number; everything that R155 ignores or discards draws no mark. -/
def State.receive (kind : Nat) (chars : List Byte) (handle : Telegram → State → State) (s : State) : State :=
  if !framed chars then s.modLine fun l => { l.heard with tracking := .searching }
  else
    let t := readTelegram chars
    let s := s.modLine Line.heard
    if !checkPasses chars then (if t.destination == s.own then s.driveMark .repeatMark else s)
    else if t.kind == kind && concernsStation s.own t then handle t s
    else s

/-! ### The receive queue (R155, R156) -/

/-- A telegram joins the receive queue at its tail (R155). Outside an evaluation it is taken at once, behind any that
waits (R156; log entry 6); during one it waits for the completion. -/
def State.join (r : Received) (s : State) : State :=
  let s := s.modLine fun l => { l with received := l.received ++ [r] }
  if s.evaluating then s else s.takeReceived

/-- A DIGEST that concerns the station: lost at a receive queue of 4, otherwise it joins (R155). -/
def State.acceptDigest (t : Telegram) (s : State) : State :=
  if 4 ≤ s.line.received.length then
    let s := s.flagReceiveLoss
    if t.destination == s.own then s.driveMark .repeatMark else s
  else s.join (.digest t.source (readDigest t.body))

/-- The telegram of the receive queue is a query. -/
def Received.isQuery : Received → Bool
  | .query _ _ _ => true | .digest _ _ => false

/-- A reply stands in the transmit queue or a query in the receive queue (R155). -/
def Line.replyPending (l : Line) : Bool :=
  (l.queue.any fun q => q.telegram.isReply) || l.received.any Received.isQuery

/-- A QUERY that concerns the station: refused with REPEAT while a reply or a query is pending; lost with REPEAT at a
receive queue of 4; otherwise it joins (R155). -/
def State.acceptQuery (t : Telegram) (s : State) : State :=
  if s.line.replyPending then s.driveMark .repeatMark
  else if 4 ≤ s.line.received.length then s.flagReceiveLoss.driveMark .repeatMark
  else s.join (.query t.source (byteAt t.body 1) (byteAt t.body 2))

/-- A CLAIM that concerns the station, decided in its window (R120 to R123); the claimant epoch is not read (R117). -/
def State.acceptClaim (t : Telegram) (s : State) : State := s.decideClaim t.source (t.body.getD 1 0#8)

/-- An ACKNOWLEDGE that concerns the station, decided in its window (R27, R165). One whose kind number is not 1 to 7
does not come this far: R155's second row ignores it (`valueFits`, log entry 25). -/
def State.acceptAcknowledge (t : Telegram) (s : State) : State :=
  if s.evaluating then s.driveMark .repeatMark
  else if s.running then
    match Kind.ofNumber (byteAt t.body 1) with
    | none => s
    | some k =>
      let key : Key := { kind := k, subject := byteAt t.body 2 }
      if (s.record key).isSome then (s.driveMark .concur).acknowledgeRecord key else s
  else s

/-! ### The commands -/

/-- RECEIVE_DIGEST (R155, R156): outside an evaluation a digest that joins is taken in the same step. -/
def execReceiveDigest (chars : List Byte) (s : State) : Host.Outcome State Fault Refusal :=
  if s.listening then finish (s.receive 1 chars State.acceptDigest) else .next s

/-- RECEIVE_CLAIM (R120 to R123). -/
def execReceiveClaim (chars : List Byte) (s : State) : Host.Outcome State Fault Refusal :=
  if s.listening then finish (s.receive 2 chars State.acceptClaim) else .next s

/-- RECEIVE_QUERY (R155, R156, R170): outside an evaluation a query that joins is taken in the same step. -/
def execReceiveQuery (chars : List Byte) (s : State) : Host.Outcome State Fault Refusal :=
  if s.listening then finish (s.receive 4 chars State.acceptQuery) else .next s

/-- ACKNOWLEDGE (R165). -/
def execAcknowledge (chars : List Byte) (s : State) : Host.Outcome State Fault Refusal :=
  if s.listening then finish (s.receive 6 chars State.acceptAcknowledge) else .next s

/-- RECEIVE_FINDING (R155): discarded at the end of its check. -/
def execReceiveFinding (chars : List Byte) (s : State) : Host.Outcome State Fault Refusal :=
  if s.listening then finish (s.receive 3 chars fun _ s => s) else .next s

/-- RECEIVE_REPLY (R155): discarded at the end of its check. -/
def execReceiveReply (chars : List Byte) (s : State) : Host.Outcome State Fault Refusal :=
  if s.listening then finish (s.receive 5 chars fun _ s => s) else .next s

end Sys2Proof.Machine
end

