-- ==== Sys2Proof/Machine/Evaluate.lean ====
section
/-! DEFINITION. Period expiry and evaluation completion (sections 2.1 and 2.2). -/

namespace Sys2Proof.Machine

/-! ### PERIOD_EXPIRY (R22) -/

/-- The banks change places: the active bank becomes the frozen period record, and a cleared bank becomes active, which
already holds a strobe of this instant taken before the expiry (R8, R22). -/
def Acquisition.swapBanks (a : Acquisition) : Acquisition :=
  { a with frozen := a.active, active := a.boundary.getD .cleared, boundary := none }

/-- The duration of an evaluation over `n` neighbour entries, in tu (R24). -/
def evaluationDuration (n : Nat) : Nat := 20 + 5 * n

/-- The evaluation of the period that ends at instant `t` begins: its completion instant counts the entries that stand
once the ages have advanced (R24). -/
def State.beginEvaluation (t : Nat) (s : State) : State :=
  s.modEval fun e => { e with inFlight := some (t + evaluationDuration s.table.entries.length) }

/-- PERIOD_EXPIRY (R22, R84, R93): the banks swap, the period sequence advances, the entries age, the duplicate timer
falls, and an evaluation begins. On an idle line a claim that is queued begins a backoff count from the W that the step
leaves (log entry 29). The timer runs in RUNNING alone, and an expiry never falls during an evaluation (R21,
R24). -/
def execPeriodExpiry (s : State) : Host.Outcome State Fault Refusal :=
  match s.running && !s.evaluating, s.timers with
  | true, some timers =>
    let t := timers.expiryInstant s.cfg
    let s1 := s.modTimers fun _ => some { timers.reach t with nextExpiry := t + s.cfg.periodLength }
    let s2 := (s1.modAcq Acquisition.swapBanks).modEval fun e => { e with sequence := e.sequence + 1 }
    let s3 := s2.ageEntries.tickDuplicate
    finish (s3.beginEvaluation t).access
  | _, _ => .next s

/-! ### EVALUATION_COMPLETION (R25) -/

/-- A DIGEST submitted: one in the queue is replaced in its place, with attempt count 0 and no repeat pause, an attempt of
the earlier one on the line going on as its own; otherwise it joins at the tail (R29, R154). -/
def Line.submitDigest (l : Line) : Line :=
  if l.holds .digest then
    { l with queue := l.queue.map fun q => if q.telegram == .digest then { q with attempts := 0 } else q
             pauses := l.pauses.filter fun p => p != .digest
             transmission := if l.onLine .digest then l.transmission.map fun t => { t with inQueue := false }
                             else l.transmission }
  else l.submit .digest

/-- The published summary is replaced as a whole, and a DIGEST is submitted (R29). -/
def State.publish (x : Summary) (s : State) : State :=
  (s.modEval fun e => { e with summary := some x }).modLine Line.submitDigest

/-- The results of the evaluation, from the frozen period record: the epoch and the references, the candidates with what
they hand over, the published summary and its DIGEST (R25, R29, R33, R35, R116). -/
def State.applyResults (s : State) : State :=
  let s1 := s.modEval (.decide s.cfg s.acq.frozen)
  let x := periodSummary s.cfg s.acq.frozen s1.eval
  (s1.updateCandidates x).publish x

/-- The evaluation is no longer in flight (R24). -/
def State.endEvaluation (s : State) : State := s.modEval fun e => { e with inFlight := none }

/-- EVALUATION_COMPLETION (R12, R25, R26, R28, R163): the results, then the held claim outcomes, then the receive queue
in arrival order, then finding telegrams; the FIFO drains into the active bank. On an idle line a backoff count begins
once all of this is done, drawn from the W that it leaves (log entry 29). -/
def execEvaluationCompletion (s : State) : Host.Outcome State Fault Refusal :=
  match s.running, s.eval.inFlight with
  | true, some t =>
    let s1 := (s.modTimers fun x => x.map (Timers.reach t)).endEvaluation
    let s2 := s1.applyResults.applyHeld.takeReceived.queueFindings
    finish (s2.modAcq (.drainAll s.cfg)).access
  | _, _ => .next s

end Sys2Proof.Machine
end

