-- ==== Sys2Proof/Machine/Startup.lean ====
section
/-! DEFINITION. Start-up, the configuration image and restarts (chapter 10): power-on, the RESET line, the image read, a
silent memory, and the restart requests of a service terminal. -/

namespace Sys2Proof.Machine

/-! ### Loading the image (R175 to R177) -/

/-- Parameter `k`, counted from 1, of the image, clamped to its range (R175, R176). -/
def parameterAt (image : List Byte) (k lo hi : Nat) : Nat := clampTo lo hi (pairAt image (37 + 2 * k))

/-- The twelve parameters clamped, open_band raised above closed_band where it is not (R176). -/
def loadParameters (image : List Byte) : Parameters :=
  let closedBand := parameterAt image 5 0 205
  let openBand := parameterAt image 6 41 819
  { minSpread := parameterAt image 1 32 640
    oaMin := parameterAt image 2 0 512
    damperTol := parameterAt image 3 51 512
    fbTol := parameterAt image 4 82 819
    closedBand := closedBand
    openBand := if openBand ≤ closedBand then closedBand + 41 else openBand
    fanRise := parameterAt image 7 0 96
    leakDt := parameterAt image 8 16 320
    fightEffort := parameterAt image 9 205 2048
    huntDeadband := parameterAt image 10 41 1024
    huntReversals := parameterAt image 11 2 30
    setpointStep := parameterAt image 12 8 160 }

/-- The role of each channel as written, a role byte above 9 being UNUSED (R177 step 1). -/
def writtenRoles (image : List Byte) : List (Option Role) :=
  (List.range 10).map fun channel => Role.ofNumber (byteAt image (4 + channel))

/-- A role written on more than one channel stays with the lowest-numbered of them; `above` are the roles already given
to lower channels (R177 step 2). -/
def keepLowest (above : List Role) : List (Option Role) → List (Option Role)
  | [] => []
  | none :: rest => none :: keepLowest above rest
  | some r :: rest =>
    if above.contains r then none :: keepLowest above rest else some r :: keepLowest (r :: above) rest

/-- The scan list of the clamped length, less the entries whose channel is above 9 or UNUSED, order and repeats kept
(R177 step 3). -/
def prunedScanList (image : List Byte) (roles : List (Option Role)) : List Nat :=
  ((List.range (clampTo 1 16 (byteAt image 14))).map fun k => byteAt image (15 + k)).filter
    fun channel => (roles.getD channel none).isSome

/-- A channel that carries a role but is named by no scan list entry is UNUSED (R2, R177 step 4). -/
def prunedRoles (scanList : List Nat) (roles : List (Option Role)) : List (Option Role) :=
  (List.range 10).map fun channel => if scanList.contains channel then roles.getD channel none else none

/-- The own zone entry in position `k`, counted from 1; an invalid one is dropped and its position stays empty (R77, R177
step 5). -/
def ownZoneAt (image : List Byte) (k : Nat) : Option OwnZone :=
  let zone := byteAt image (29 + 2 * k)
  let dontCare := byteAt image (30 + 2 * k)
  if 1 ≤ zone && zone ≤ 254 && dontCare ≤ 3 then some { zone := zone, dontCare := dontCare } else none

/-- The configuration that an accepted image loads, clamped and pruned (R175 to R177). -/
def loadConfiguration (image : List Byte) : Configuration :=
  let written := keepLowest [] (writtenRoles image)
  let scanList := prunedScanList image written
  { scanTap := clampTo 0 4 (byteAt image 2)
    periodTap := clampTo 0 5 (byteAt image 3)
    roles := prunedRoles scanList written
    scanList := scanList
    zones := [ownZoneAt image 1, ownZoneAt image 2, ownZoneAt image 3, ownZoneAt image 4]
    params := loadParameters image
    routing := BitVec.ofNat 16 (pairAt image 63) }

/-! ### Stopping, halting, entering RUNNING -/

/-- Every block stopped and at its power-on values: acquisition, timers, evaluator, candidates, neighbour table, line
controller and report unit (R20, R36, R75, R97, R157, R171). The loader, the commands waiting and the count of draws
stay. -/
def State.clearBlocks (s : State) : State :=
  { s with acq := .restart, timers := none, eval := .cold, locals := localsCleared, table := .restart
           line := .restart s.line.draws, report := .cold }

/-- Entry to HALTED with a cause: acquisition and timers are stopped and the line controller is SEARCHING (R157, R179). -/
def State.halt (cause : HaltCause) (s : State) : State :=
  s.modLoader fun l => { l with station := .halted, halt := cause }

/-- Entry to STARTING (R172), every block being at its power-on values, and the strap read (R173): a number of 0 or from
60 to 63 halts the station at once. -/
def State.enterStarting (cause : RestartCause) (straps : BitVec 6) (s : State) : State :=
  let s := s.clearBlocks.modLoader fun l =>
    { l with station := .starting, halt := .none, cause := cause, number := none, config := none, version := 0 }
  if strapValid (strapNumber straps) then s.modLoader fun l => { l with number := some (strapNumber straps) }
  else s.halt .strapInvalid

/-- Entry to RUNNING (R178): both timers start, local candidates are found active or inactive, the line controller is
SEARCHING with the restart pending mark set, and the first-evaluation mark is set. -/
def State.enterRunning (s : State) : State :=
  let s := s.modLoader fun l => { l with station := .running, halt := .none }
  let s := s.modTimers fun _ => some (.start s.cfg)
  let s := s.modLocals fun l => l.map fun x => { x with active := candidateActive s.cfg x.key }
  let s := s.modLine fun l => { l with tracking := .searching, idle := false, restartPending := true }
  s.modEval fun e => { e with firstEvaluation := true }

/-! ### Power-on and the RESET line -/

/-- POWER_ON (R172): with the RESET line released the station enters STARTING with cause POWER. While it is asserted the
part is held before STARTING; the values its loader then stands at, no number, no configuration, version 0, no halt
cause and cause POWER, are log entry 15. -/
def execPowerOn (straps : BitVec 6) (s : State) : Host.Outcome State Fault Refusal :=
  let s1 := s.clearBlocks.modLoader fun l =>
    { l with supply := true, station := .starting, halt := .none, cause := .power, number := none, config := none
             version := 0 }
  finish (if s.loader.resetAsserted then s1 else s1.enterStarting .power straps)

/-- RESET_LINE_ASSERTED (R19, R172): every block stops at its restart values, an evaluation is abandoned (R30), and the
output lines and the plant line are released. The loader's number, configuration, version and causes stay while the part
is held (log entry 15). -/
def execResetLineAsserted (s : State) : Host.Outcome State Fault Refusal :=
  finish (s.clearBlocks.modLoader fun l => { l with resetAsserted := true, station := .starting })

/-- RESET_LINE_RELEASED (R172): the station enters STARTING with cause RESET_LINE. Nothing follows where the line was not
asserted, or where there is no supply. -/
def execResetLineReleased (straps : BitVec 6) (s : State) : Host.Outcome State Fault Refusal :=
  if s.loader.resetAsserted then
    let s1 := s.modLoader fun l => { l with resetAsserted := false }
    finish (if s.loader.supply then s1.enterStarting .resetLine straps else s1)
  else .next s

/-! ### The image read -/

/-- IMAGE_READ_COMPLETE (R175 to R178): the check, then the version, then clamping and pruning; the station halts at the
first that fails, or enters RUNNING. An image that is not whole is not complete. -/
def execImageReadComplete (image : List Byte) (s : State) : Host.Outcome State Fault Refusal :=
  if s.startingUp && image.length == 128 then
    if !imageCheckPasses image then finish (s.halt .checkFailed)
    else if byteAt image 1 != 3 then finish (s.halt .versionUnknown)
    else
      let config := loadConfiguration image
      if config.scanList.isEmpty then
        finish ((s.modLoader fun l => { l with version := 3 }).halt .scanListEmpty)
      else finish (s.modLoader fun l => { l with config := some config, version := 3 }).enterRunning
  else .next s

/-- MEMORY_SILENT (R174): 30 tu after entry to STARTING the image has not arrived, and the station halts. -/
def execMemorySilent (s : State) : Host.Outcome State Fault Refusal :=
  if s.startingUp then finish (s.halt .memorySilent) else .next s

/-! ### Restart requests (R180 to R182) -/

/-- A cold restart takes effect: the supply and RESET conditions apart, as a power-on with cause COLD_REQUEST (R181). -/
def State.coldRestart (straps : BitVec 6) (s : State) : State := s.enterStarting .coldRequest straps

/-- The records of pair candidates that end at a warm restart become WITHDRAWN (R73, R97, R171). -/
def State.endAllCandidates (s : State) : State := s.table.entries.foldl (fun s e => s.endCandidate e) s

/-- A warm restart from RUNNING takes effect (R182): acquisition, evaluation state, line controller and neighbour table
take their warm values (R20, R36, R97, R157); candidates, finding list, flags, period sequence, epoch, station number
and configuration are kept; the station enters RUNNING at the same instant. -/
def State.warmRestart (s : State) : State :=
  let s := s.endAllCandidates
  let s := { s with acq := .restart
                    eval := { Evaluator.cold with sequence := s.eval.sequence, epoch := s.eval.epoch }
                    table := .restart
                    line := .restart s.line.draws }
  (s.modLoader fun l => { l with cause := .warmRequest }).enterRunning

/-- A RESTART that concerns the station, decided in its window: REPEAT during an evaluation (R27); otherwise CONCUR, and
the restart `act` takes effect at the window's end (R180), the CONCUR being kept in `Line.mark` (log entry 17). -/
def State.acceptRestart (act : State → State) (s : State) : State :=
  if s.evaluating then s.driveMark .repeatMark else (act s).driveMark .concur

/-- RESTART_COLD (R180, R181). A request that the station does not hear, as in STARTING, gets no mark and changes nothing;
`Line.mark` then keeps the mark of the window before (log entry 17). -/
def execRestartCold (chars : List Byte) (straps : BitVec 6) (s : State) : Host.Outcome State Fault Refusal :=
  if s.listening then
    finish (s.receive 7 chars fun t s => if byteAt t.body 1 == 2 then s.acceptRestart (.coldRestart straps) else s)
  else .next s

/-- RESTART_WARM (R180, R182): from HALTED it enters STARTING with cause WARM_REQUEST and proceeds as a cold restart. A
request that the station does not hear is as for RESTART_COLD (log entry 17). -/
def execRestartWarm (chars : List Byte) (straps : BitVec 6) (s : State) : Host.Outcome State Fault Refusal :=
  if s.listening then
    finish (s.receive 7 chars fun t s =>
      if byteAt t.body 1 == 1 then
        s.acceptRestart fun s => if s.running then s.warmRestart else s.enterStarting .warmRequest straps
      else s)
  else .next s

end Sys2Proof.Machine
end

