-- ==== Sys2Proof/Machine/Dispatch.lean ====
section
/-! DEFINITION. One arm per command, in the order of spec/opcode_table.json. -/

namespace Sys2Proof.Machine

def exec (i : Instr) (s : State) : Host.Outcome State Fault Refusal :=
  match i with
  | .powerOn straps => Sys2Proof.Machine.execPowerOn straps s
  | .resetLineAsserted => Sys2Proof.Machine.execResetLineAsserted s
  | .resetLineReleased straps => Sys2Proof.Machine.execResetLineReleased straps s
  | .imageReadComplete image => Sys2Proof.Machine.execImageReadComplete image s
  | .memorySilent => Sys2Proof.Machine.execMemorySilent s
  | .scanStrobe fan occ => Sys2Proof.Machine.execScanStrobe fan occ s
  | .conversionComplete microvolts => Sys2Proof.Machine.execConversionComplete microvolts s
  | .periodExpiry => Sys2Proof.Machine.execPeriodExpiry s
  | .evaluationCompletion => Sys2Proof.Machine.execEvaluationCompletion s
  | .lineIdle => Sys2Proof.Machine.execLineIdle s
  | .leaveTelegram => Sys2Proof.Machine.execLeaveTelegram s
  | .defer => Sys2Proof.Machine.execDefer s
  | .backoffEnd => Sys2Proof.Machine.execBackoffEnd s
  | .contentionLoss => Sys2Proof.Machine.execContentionLoss s
  | .attemptOutcome repeatPlace stalePlace concurPlace => Sys2Proof.Machine.execAttemptOutcome repeatPlace stalePlace concurPlace s
  | .repeatPauseEnd => Sys2Proof.Machine.execRepeatPauseEnd s
  | .receiveDigest chars => Sys2Proof.Machine.execReceiveDigest chars s
  | .digestTaken => Sys2Proof.Machine.execDigestTaken s
  | .receiveClaim chars => Sys2Proof.Machine.execReceiveClaim chars s
  | .receiveQuery chars => Sys2Proof.Machine.execReceiveQuery chars s
  | .queryStatus => Sys2Proof.Machine.execQueryStatus s
  | .queryFindings => Sys2Proof.Machine.execQueryFindings s
  | .queryNeighbours => Sys2Proof.Machine.execQueryNeighbours s
  | .acknowledge chars => Sys2Proof.Machine.execAcknowledge chars s
  | .restartWarm chars straps => Sys2Proof.Machine.execRestartWarm chars straps s
  | .restartCold chars straps => Sys2Proof.Machine.execRestartCold chars straps s
  | .receiveFinding chars => Sys2Proof.Machine.execReceiveFinding chars s
  | .receiveReply chars => Sys2Proof.Machine.execReceiveReply chars s
  | .startBitRead => Sys2Proof.Machine.execStartBitRead s
  | .lineFaultOnTransmit => Sys2Proof.Machine.execLineFaultOnTransmit s

end Sys2Proof.Machine
end

