-- ==== Sys2Proof/Safety.lean ====
section
/-! DEFINITION. What claims about the part are stated with: frames, a telegram heard whole, and the laws that every step
keeps. No step of this part stops it, so a safe run is one whose every state keeps these laws. -/

namespace Sys2Proof.Machine

/-! ### Frames -/

/-- Acquisition, timers, evaluator, local candidates, loader and the waiting commands are as before: at most the
neighbour table, the line controller and the report unit have changed. -/
structure KeepsCore (s t : State) : Prop where
  acq : t.acq = s.acq
  timers : t.timers = s.timers
  eval : t.eval = s.eval
  locals : t.locals = s.locals
  loader : t.loader = s.loader
  pending : t.pending = s.pending

/-- Finding list and sticky flags are as before; the lines follow on their own (`LinesAgree`). -/
structure KeepsReport (s t : State) : Prop where
  findings : t.report.findings = s.report.findings
  flags : t.report.flags = s.report.flags

/-- Only the line controller has changed, the output lines apart. -/
structure OnlyLine (s t : State) : Prop extends KeepsCore s t, KeepsReport s t where
  table : t.table = s.table

/-- Apart from the line being followed, only what belongs to the pair with station `p` has changed: its entry, the record
of its key, and the places of its claim and of its finding telegram in the transmit queue. -/
structure OnlyPair (p : Nat) (s t : State) : Prop extends KeepsCore s t where
  entries : ∀ g : Entry, g.station ≠ p → (g ∈ t.table.entries ↔ g ∈ s.table.entries)
  records : ∀ f : Finding, f.key ≠ pairKey p → (f ∈ t.report.findings ↔ f ∈ s.report.findings)
  queue : ∀ q : Queued, q.telegram ≠ .claim p → q.telegram ≠ .finding (pairKey p) →
    (q ∈ t.line.queue ↔ q ∈ s.line.queue)
  saturated : t.table.saturated = s.table.saturated
  duplicateTimer : t.table.duplicateTimer = s.table.duplicateTimer
  restartPending : t.line.restartPending = s.line.restartPending

/-- Every block but the loader is stopped at its power-on values (R20, R36, R55, R75, R97, R157, R171). -/
structure BlocksCleared (t : State) : Prop where
  acq : t.acq = .restart
  timers : t.timers = none
  eval : t.eval = .cold
  locals : t.locals = localsCleared
  table : t.table = .restart
  tracking : t.line.tracking = .searching
  idle : t.line.idle = false
  queue : t.line.queue = []
  pauses : t.line.pauses = []
  window : t.line.window = 8
  backoff : t.line.backoff = none
  restartPending : t.line.restartPending = false
  received : t.line.received = []
  held : t.line.held = []
  transmission : t.line.transmission = none
  findings : t.report.findings = []
  flags : t.report.flags = .clear
  alertA : t.report.alertA = false
  alertB : t.report.alertB = false

/-- Only the loader has changed, the output lines apart. -/
structure OnlyLoader (s t : State) : Prop extends KeepsReport s t where
  acq : t.acq = s.acq
  timers : t.timers = s.timers
  eval : t.eval = s.eval
  locals : t.locals = s.locals
  table : t.table = s.table
  line : t.line = s.line
  pending : t.pending = s.pending

/-- The loader after the straps are read (R172, R173): STARTING with the number kept, or HALTED at once. -/
def StrapsRead (straps : BitVec 6) (t : State) : Prop :=
  if 1 ≤ straps.toNat ∧ straps.toNat ≤ 59 then
    t.loader.station = .starting ∧ t.loader.halt = .none ∧ t.loader.number = some straps.toNat ∧ t.report.fault = false
  else
    t.loader.station = .halted ∧ t.loader.halt = .strapInvalid ∧ t.loader.number = none ∧ t.report.fault = true

/-- Entry to STARTING with a restart cause, and the strap read (R172, R173). -/
structure EntersStarting (cause : RestartCause) (straps : BitVec 6) (s t : State) : Prop extends BlocksCleared t where
  supply : t.loader.supply = true
  released : t.loader.resetAsserted = false
  cause : t.loader.cause = cause
  config : t.loader.config = none
  version : t.loader.version = 0
  straps : StrapsRead straps t
  draws : t.line.draws = s.line.draws
  pending : t.pending = s.pending

/-! ### Telegrams heard -/

/-- How many data bits two runs of characters of one length differ in. -/
def bitsDamaged (sent read : List Byte) : Nat := (List.zipWith xor (charBits sent) (charBits read)).count true

/-- The characters are an undamaged telegram with these fields. -/
structure Carries (chars : List Byte) (t : Telegram) : Prop where
  framed : framed chars = true
  checked : checkPasses chars = true
  fields : readTelegram chars = t

/-- The own number is that of a Kedlon station (section 3.1 of the scope file). -/
abbrev State.numbered (s : State) : Prop := 1 ≤ s.own ∧ s.own ≤ 59

/-! ### Laws -/

/-- R68: the score lies in 0 to 1023 and in the band of the state. -/
abbrev Scored.Banded (c : Scored) : Prop :=
  c.score ≤ 1023 ∧ (c.state = .clear → c.score < 256) ∧ (c.state = .suspect → 64 < c.score)
    ∧ (c.state = .confirmed → 384 < c.score) ∧ (c.state = .recovering → 64 < c.score ∧ c.score < 768)

/-- R68 for every candidate, local and pair. -/
abbrev State.CandidatesBanded (s : State) : Prop :=
  (∀ x ∈ s.locals, x.scored.Banded) ∧ ∀ e ∈ s.table.entries, e.pair.Banded

/-- The bounds of the FIFO (R11), the receive queue (R156), the neighbour table (R81), W (R141) and the duplicate timer
(R83). -/
abbrev State.WithinCapacity (s : State) : Prop :=
  s.acq.fifo.length ≤ 12 ∧ s.line.received.length ≤ 4 ∧ s.table.entries.length ≤ 8
    ∧ s.line.window ∈ [8, 16, 32, 64] ∧ s.table.duplicateTimer ≤ 4

/-- R81: no two entries for one station. -/
abbrev State.StationsDistinct (s : State) : Prop := (s.table.entries.map Entry.station).Nodup

/-- R115: CLAIMING or HOLDER only while CONFIRMED or RECOVERING; with R81, on which it rests. -/
abbrev State.OwnershipLawful (s : State) : Prop :=
  s.StationsDistinct ∧
    ∀ e ∈ s.table.entries, e.ownership = .claiming ∨ e.ownership = .holder → e.pair.state.confirmedOrRecovering = true

/-- R11, R28, R156: outside an evaluation the FIFO and the receive queue are empty, and no claim outcome is held. -/
abbrev State.NothingWaits (s : State) : Prop :=
  s.eval.inFlight = none → s.acq.fifo = [] ∧ s.line.held = [] ∧ s.line.received = []

/-- R167, R168: the output lines are at the levels that the rules give them. -/
abbrev State.LinesAgree (s : State) : Prop :=
  s.report.alertA = s.alertALevel ∧ s.report.alertB = s.alertBLevel ∧ s.report.fault = s.faultLevel

/-- A record status that reports a candidate state: CONFIRMED of CONFIRMED, RECOVERING of RECOVERING (R160). -/
def RecordStatus.reports : RecordStatus → CandState → Bool
  | .confirmed, .confirmed => true
  | .recovering, .recovering => true
  | _, _ => false

/-- R158, R160: keys are distinct; a candidate is CONFIRMED or RECOVERING exactly when a record with its key has that
status; with R60 and R81, on which this rests. -/
abbrev State.RecordsMatch (s : State) : Prop :=
  (s.report.findings.map Finding.key).Nodup
    ∧ s.locals.map LocalCandidate.key = localKeys
    ∧ s.StationsDistinct
    ∧ (∀ x ∈ s.locals, x.scored.state.confirmedOrRecovering = true →
        ∃ f ∈ s.report.findings, f.key = x.key ∧ f.status.reports x.scored.state = true)
    ∧ (∀ e ∈ s.table.entries, e.pair.state.confirmedOrRecovering = true →
        ∃ f ∈ s.report.findings, f.key = pairKey e.station ∧ f.status.reports e.pair.state = true)
    ∧ (∀ f ∈ s.report.findings, f.status.isActive = true →
        (∃ x ∈ s.locals, x.key = f.key ∧ f.status.reports x.scored.state = true)
          ∨ ∃ e ∈ s.table.entries, pairKey e.station = f.key ∧ f.status.reports e.pair.state = true)

/-- R158: the finding list holds at most 24 records; R166: none that is inactive, acknowledged and announced; with
`RecordsMatch` and R81's bound, on which the first rests (R69). -/
abbrev State.ListBounded (s : State) : Prop :=
  s.RecordsMatch ∧ s.table.entries.length ≤ 8 ∧ s.report.findings.length ≤ 24
    ∧ ∀ f ∈ s.report.findings, ¬(f.status.isActive = false ∧ f.acknowledged = true ∧ f.announced = true)

/-- R73, R162: the active record with a key has become WITHDRAWN, to be told only where this station had told of it; it is
in the list unless it was acknowledged and need not be told (R166). -/
abbrev RecordWithdrawn (k : Key) (s t : State) : Prop :=
  (∀ f ∈ t.report.findings, f.key = k → f.status.isActive = false) ∧
  ∀ f ∈ s.report.findings, f.key = k → f.status.isActive = true →
    let w := { f with status := .withdrawn, announced := !(f.holder == .self && f.reportedActive) }
    ¬(f.acknowledged = true ∧ w.announced = true) → w ∈ t.report.findings

/-- R163: at an occasion to queue finding telegrams, the transmit queue goes from `before` to `after`: at its tail a
FINDING joins for each SELF record not announced and not yet in it, in list order, until four stand there. -/
abbrev FindingsQueued (findings : List Finding) (before after : List Queued) : Prop :=
  let waiting := findings.filter fun f =>
    f.holder == .self && !f.announced && !(before.any fun q => q.telegram == .finding f.key)
  after = before ++ (waiting.take (4 - before.countP fun q => q.telegram.isFinding)).map
    fun f => { telegram := .finding f.key, attempts := 0 }

/-- How many records the completion may make: one for each SUSPECT candidate (R66, R159). -/
abbrev State.mayConfirm (s : State) : Nat :=
  s.locals.countP (fun x => x.scored.state == .suspect) + s.table.entries.countP (fun e => e.pair.state == .suspect)

/-- How many replies stand in the transmit queue, with the queries of the receive queue that may still make one. -/
abbrev State.repliesDue (s : State) : Nat :=
  (s.line.queue.countP fun q => q.telegram.isReply) + s.line.received.countP Received.isQuery

/-- R118, R153: no telegram stands in the transmit queue twice, so at most one digest, one claim per peer and one
finding telegram per key; a claim stands in it exactly for each CLAIMING entry; at most four finding telegrams and one
reply; with R81, on which this rests. -/
abbrev State.QueueLawful (s : State) : Prop :=
  s.StationsDistinct ∧ s.table.entries.length ≤ 8
    ∧ (s.line.queue.map Queued.telegram).Nodup
    ∧ (∀ e ∈ s.table.entries, (s.line.holds (.claim e.station) = true ↔ e.ownership = .claiming))
    ∧ (∀ q ∈ s.line.queue, ∀ p, q.telegram = .claim p → ∃ e ∈ s.table.entries, e.station = p)
    ∧ s.line.findingCount ≤ 4 ∧ s.repliesDue ≤ 1

end Sys2Proof.Machine
end

