-- ==== Sys2Proof/Certificates/Slice0/Obligations.lean ====
section
/-! DEFINITION. What is stated of the part, for the provers. Each statement about a command concludes that the command
answers a next state and says what that state holds; a frame says what is as before. Conventions that are the model's
own are named by their log entry. -/

section
open Sys2Proof Sys2Proof.Machine

/-! ### The queue of commands -/

/-- A step is the command at the front of the queue, with the rest of the queue waiting on. -/
def Obligations.StepRunsFrontCommand : Prop :=
  ∀ (c : Instr) (rest : List Instr) (s : State), step { s with pending := c :: rest } = exec c { s with pending := rest }

/-- No command stops the part, and none touches the commands that wait. -/
def Obligations.EveryCommandGoesOn : Prop :=
 ∀ (c : Instr) (s : State), ∃ t, exec c s = .next t ∧ t.pending = s.pending

/-- The state before the first command keeps every law of `Safety`. Its values where no rule gives one are the model's
choice, log entry 2. -/
def Obligations.ResetKeepsTheLaws : Prop :=
  State.reset.CandidatesBanded ∧ State.reset.WithinCapacity ∧ State.reset.OwnershipLawful ∧ State.reset.NothingWaits
    ∧ State.reset.LinesAgree ∧ State.reset.ListBounded ∧ State.reset.QueueLawful

/-! ### Start-up and restarts (chapter 10) -/

/-- POWER_ON, RESET_LINE_ASSERTED and RESET_LINE_RELEASED (R19, R30, R172, R173). Power-on and the release enter STARTING
with their cause; an asserted line holds the part, every block at its restart values and every output released. The
model's own, log entry 15: the loader that RESET_LINE_ASSERTED leaves while the part is held (number, configuration,
version, cause and halt cause as before, STARTING read), a power-on with the line asserted, a release without a supply,
and one where the line was not asserted. -/
def Obligations.PowerAndResetLine : Prop :=
  (∀ (straps : BitVec 6) (s : State), ∃ t, exec (.powerOn straps) s = .next t ∧
      (s.loader.resetAsserted = false → EntersStarting .power straps s t) ∧
      (s.loader.resetAsserted = true →
        BlocksCleared t ∧ t.stopped = true ∧ t.loader.resetAsserted = true ∧ t.loader.supply = true
          ∧ t.report.fault = false ∧ t.pending = s.pending))
    ∧ (∀ s : State, ∃ t, exec .resetLineAsserted s = .next t ∧ BlocksCleared t ∧ t.report.fault = false
      ∧ t.loader = { s.loader with resetAsserted := true, station := .starting }
      ∧ t.stopped = true ∧ t.running = false ∧ t.lineRuns = false ∧ t.line.draws = s.line.draws ∧ t.pending = s.pending)
    ∧ (∀ (straps : BitVec 6) (s : State), ∃ t, exec (.resetLineReleased straps) s = .next t ∧
      (s.loader.resetAsserted = true ∧ s.loader.supply = true → EntersStarting .resetLine straps s t) ∧
      (s.loader.resetAsserted = true ∧ s.loader.supply = false →
        OnlyLoader s t ∧ t.loader = { s.loader with resetAsserted := false }) ∧
      (s.loader.resetAsserted = false → t = s))

/-- IMAGE_READ_COMPLETE and MEMORY_SILENT (R174, R175, R177 to R179). A failed check, then another version, then an empty
scan list halts the station, only the loader changing and FAULT asserted; any other image brings it into RUNNING, the
timers started, activity decided by the table of R61, the line SEARCHING with the restart pending mark, the first-evaluation
mark set. A silent memory halts it. That an image of empty scan list leaves version 3 and no configuration is deduced,
log entry 14. -/
def Obligations.ImageRead : Prop :=
  (∀ (image : List Byte) (s : State), s.startingUp = true → image.length = 128 →
      imageSum image % 65536 ≠ 0 ∨ byteAt image 1 ≠ 3 ∨ (loadConfiguration image).scanList = [] →
      ∃ t, exec (.imageReadComplete image) s = .next t ∧ OnlyLoader s t ∧ t.halted = true ∧ t.report.fault = true ∧
        t.loader =
          (if imageSum image % 65536 ≠ 0 then { s.loader with station := .halted, halt := .checkFailed }
           else if byteAt image 1 ≠ 3 then { s.loader with station := .halted, halt := .versionUnknown }
           else { s.loader with station := .halted, halt := .scanListEmpty, version := 3 }))
    ∧ (∀ (image : List Byte) (s : State), s.startingUp = true → image.length = 128 → imageSum image % 65536 = 0 →
      byteAt image 1 = 3 → (loadConfiguration image).scanList ≠ [] →
      ∃ t, exec (.imageReadComplete image) s = .next t ∧ t.running = true
        ∧ t.loader = { s.loader with station := .running, halt := .none, config := some (loadConfiguration image),
                                     version := 3 }
        ∧ t.timers = some { now := 0, nextStrobe := 0, nextExpiry := 16384 * 2 ^ clampTo 0 5 (byteAt image 3) }
        ∧ t.locals = s.locals.map (fun x => { x with active := candidateActive (loadConfiguration image) x.key })
        ∧ t.line = { s.line with tracking := .searching, idle := false, restartPending := true }
        ∧ t.eval = { s.eval with firstEvaluation := true }
        ∧ t.acq = s.acq ∧ t.table = s.table ∧ KeepsReport s t ∧ t.pending = s.pending)
    ∧ (∀ c : Configuration,
      let m := fun r => c.mapped r = true
      (candidateActive c ⟨.damperStuck, 0⟩ = true ↔ m .dmc ∧ (m .oat ∧ m .rat ∧ m .mat ∨ m .dmf))
        ∧ (candidateActive c ⟨.coolLeak, 0⟩ = true ↔ m .mat ∧ m .dat ∧ m .cvc)
        ∧ (candidateActive c ⟨.heatLeak, 0⟩ = true ↔ m .mat ∧ m .dat ∧ m .hvc)
        ∧ (candidateActive c ⟨.simultHc, 0⟩ = true ↔ m .hvc ∧ m .cvc)
        ∧ (candidateActive c ⟨.hunting, 0⟩ = true ↔ m .hvc ∨ m .cvc)
        ∧ ∀ r : Role, candidateActive c ⟨.pointFault, r.number⟩ = true ↔ m r)
    ∧ (∀ s : State, s.startingUp = true →
      ∃ t, exec .memorySilent s = .next t ∧ OnlyLoader s t ∧ t.halted = true ∧ t.report.fault = true
        ∧ t.loader = { s.loader with station := .halted, halt := .memorySilent })

/-- R176: every parameter and both taps come into range, a value in range is kept, and open_band stands above
closed_band. -/
def Obligations.LoadedValuesInRange : Prop :=
  ∀ image : List Byte,
    let c := loadConfiguration image
    let clamped := fun (loaded written lo hi : Nat) =>
      (written < lo → loaded = lo) ∧ (hi < written → loaded = hi) ∧ (lo ≤ written ∧ written ≤ hi → loaded = written)
    let word := fun k => pairAt image (37 + 2 * k)
    clamped c.scanTap (byteAt image 2) 0 4 ∧ clamped c.periodTap (byteAt image 3) 0 5
      ∧ clamped c.params.minSpread (word 1) 32 640 ∧ clamped c.params.oaMin (word 2) 0 512
      ∧ clamped c.params.damperTol (word 3) 51 512 ∧ clamped c.params.fbTol (word 4) 82 819
      ∧ clamped c.params.closedBand (word 5) 0 205 ∧ clamped c.params.fanRise (word 7) 0 96
      ∧ clamped c.params.leakDt (word 8) 16 320 ∧ clamped c.params.fightEffort (word 9) 205 2048
      ∧ clamped c.params.huntDeadband (word 10) 41 1024 ∧ clamped c.params.huntReversals (word 11) 2 30
      ∧ clamped c.params.setpointStep (word 12) 8 160
      ∧ (∃ o, clamped o (word 6) 41 819 ∧
          c.params.openBand = if o ≤ c.params.closedBand then c.params.closedBand + 41 else o)
      ∧ c.params.closedBand < c.params.openBand ∧ c.params.openBand ≤ 819

/-- R2, R4, R177: a role stays with the lowest-numbered channel it is written on, if the first n entries name that
channel; the loaded list is those entries, in order and with repeats, whose channel kept a role. R77, R175, R177: an own
zone entry out of range is dropped and its position stays empty; the alert routing is the word of bytes 63 and 64. -/
def Obligations.LoadedRolesAndScanList : Prop :=
  ∀ image : List Byte,
    let c := loadConfiguration image
    let written := (List.range (clampTo 1 16 (byteAt image 14))).map fun i => byteAt image (15 + i)
    (∀ channel r, c.roleOf channel = some r ↔
        channel ≤ 9 ∧ byteAt image (4 + channel) = r.number ∧ (∀ k < channel, byteAt image (4 + k) ≠ r.number)
          ∧ channel ∈ written)
      ∧ c.scanList.Sublist written
      ∧ (∀ channel, c.scanList.count channel = if (c.roleOf channel).isSome then written.count channel else 0)
      ∧ (∀ r, c.mapped r = true ↔ 0 < c.multiplicity r)
      ∧ c.zones.length = 4
      ∧ (∀ k ∈ [1, 2, 3, 4],
          let zone := byteAt image (29 + 2 * k)
          let dontCare := byteAt image (30 + 2 * k)
          (1 ≤ zone ∧ zone ≤ 254 ∧ dontCare ≤ 3 → c.zones.getD (k - 1) none = some ⟨zone, dontCare⟩)
            ∧ (zone = 0 ∨ zone = 255 ∨ 3 < dontCare → c.zones.getD (k - 1) none = none))
      ∧ c.routing = image.getD 62 0#8 ++ image.getD 63 0#8

/-- RESTART_COLD, and RESTART_WARM from HALTED (R180 to R182), outside an evaluation: CONCUR, and STARTING with the cause of
the request. -/
def Obligations.RestartEntersStarting : Prop :=
  (∀ (chars : List Byte) (straps : BitVec 6) (source : Nat) (s : State),
      s.listening = true → s.numbered → s.evaluating = false → 60 ≤ source → source ≤ 62 →
      Carries chars { kind := 7, source := source, destination := s.own, body := [2#8] } →
      ∃ t, exec (.restartCold chars straps) s = .next t ∧ EntersStarting .coldRequest straps s t
        ∧ t.line.mark = some .concur)
    ∧ (∀ (chars : List Byte) (straps : BitVec 6) (source : Nat) (s : State),
      s.listening = true → s.halted = true → s.numbered → s.evaluating = false → 60 ≤ source → source ≤ 62 →
      Carries chars { kind := 7, source := source, destination := s.own, body := [1#8] } →
      ∃ t, exec (.restartWarm chars straps) s = .next t ∧ EntersStarting .warmRequest straps s t
        ∧ t.line.mark = some .concur)

/-- RESTART_WARM from RUNNING (R20, R36, R75, R97, R157, R162, R171, R182): CONCUR; number, configuration, candidates,
flags, sequence and epoch kept; acquisition, references, table and queues at their restart values; the active
CROSS_FIGHT records WITHDRAWN, those then done with removed. -/
def Obligations.RestartWarmFromRunning : Prop :=
  ∀ (chars : List Byte) (straps : BitVec 6) (source : Nat) (s : State),
    s.listening = true → s.running = true → s.numbered → s.evaluating = false → s.RecordsMatch →
    60 ≤ source → source ≤ 62 →
    Carries chars { kind := 7, source := source, destination := s.own, body := [1#8] } →
    ∃ t, exec (.restartWarm chars straps) s = .next t ∧ t.running = true
      ∧ t.loader = { s.loader with halt := .none, cause := .warmRequest }
      ∧ t.acq = .restart
      ∧ t.eval = { Evaluator.cold with sequence := s.eval.sequence, epoch := s.eval.epoch, firstEvaluation := true }
      ∧ t.timers = some { now := 0, nextStrobe := 0, nextExpiry := s.cfg.periodLength }
      ∧ t.locals = s.locals.map (fun x => { x with active := candidateActive s.cfg x.key })
      ∧ t.table = .restart
      ∧ t.line = { Line.restart s.line.draws with restartPending := true, mark := some .concur }
      ∧ t.report.flags = s.report.flags
      ∧ t.report.findings = s.report.findings.filterMap (fun f =>
          let w := { f with status := .withdrawn, announced := !(f.holder == .self && f.reportedActive) }
          if f.key.kind = .crossFight ∧ f.status.isActive = true then
            if f.acknowledged = true ∧ w.announced = true then none else some w
          else some f)
      ∧ t.pending = s.pending

/-! ### Acquisition (chapter 1, section 3.9) -/

/-- R1, the code of an input voltage; R10, what is implausible, that it is settled when the conversion completes, that the
FIFO takes either kind, and what an implausible sample does at the drain. -/
def Obligations.CodesAndPlausibility : Prop :=
  (∀ microvolts : Int,
      (2500000 ≤ microvolts → conversionCode microvolts = 4095) ∧ (microvolts ≤ 0 → conversionCode microvolts = 0)
        ∧ (0 ≤ microvolts → microvolts < 2500000 →
            (conversionCode microvolts : Int) * 2500000 ≤ microvolts * 4096
              ∧ microvolts * 4096 < ((conversionCode microvolts : Int) + 1) * 2500000))
    ∧ ((∀ code, plausibleCode code = false ↔ code < 16 ∨ 4079 < code)
      ∧ (∀ c position v, (formSample c position v).plausible = plausibleCode (formSample c position v).code)
      ∧ (∀ (a : Acquisition) x, (a.push x).fifo = a.fifo ++ [x])
      ∧ (∀ (x : Sample) (n : RoleCounts), x.plausible = false →
          n.take x = { sum := n.sum, valid := n.valid, invalid := n.invalid + 1 }))

/-- SCAN_STROBE (R6 to R8, R17, R18). With no scan in progress the scan counts, with FAN and OCC, in the active bank, or,
where an expiry of this instant is still to come, in the bank that becomes active then; while a conversion is due later
the strobe is dropped, SCAN_OVERRUN set, the scan unchanged. -/
def Obligations.ScanStrobe : Prop :=
  (∀ (fan occ : Bool) (s : State) (T : Timers), s.running = true → s.timers = some T → T.now ≤ T.nextStrobe →
      s.cfg.scanInterval ∣ T.nextStrobe → s.acq.scan = none → s.acq.nextScan = none →
      ∃ t, exec (.scanStrobe fan occ) s = .next t
        ∧ (let old := if T.nextExpiry ≤ T.nextStrobe then s.acq.boundary.getD .cleared else s.acq.active
           let counted : Bank := { old with
             scansTaken := old.scansTaken + 1
             fan := if fan = true ∧ old.fan ≠ .notProven then .proven else .notProven
             occChanged := old.occChanged || s.acq.occRef == some (!occ)
             occLast := some occ }
           t.acq = { s.acq with
             scan := some { strobe := T.nextStrobe, position := 1 }
             occRef := some occ
             active := if T.nextExpiry ≤ T.nextStrobe then s.acq.active else counted
             boundary := if T.nextExpiry ≤ T.nextStrobe then some counted else s.acq.boundary })
        ∧ t.timers = some { T with now := T.nextStrobe, nextStrobe := T.nextStrobe + s.cfg.scanInterval }
        ∧ t.eval = s.eval ∧ t.locals = s.locals ∧ t.table = s.table ∧ t.line = s.line ∧ KeepsReport s t
        ∧ t.loader = s.loader ∧ t.pending = s.pending)
    ∧ (∀ (fan occ : Bool) (s : State) (T : Timers) (x : Scan), s.running = true → s.timers = some T → T.now ≤ T.nextStrobe →
      s.cfg.scanInterval ∣ T.nextStrobe → s.acq.scan = some x → T.nextStrobe < x.strobe + 4 * s.cfg.scanList.length →
      ∃ t, exec (.scanStrobe fan occ) s = .next t ∧ t.acq = s.acq
        ∧ t.timers = some { T with now := T.nextStrobe, nextStrobe := T.nextStrobe + s.cfg.scanInterval }
        ∧ t.report.flags = { s.report.flags with scanOverrun := true } ∧ t.report.findings = s.report.findings
        ∧ t.eval = s.eval ∧ t.locals = s.locals ∧ t.table = s.table ∧ t.line = s.line ∧ t.loader = s.loader
        ∧ t.pending = s.pending)

/-- A strobe at the instant at which the scan's last conversion completes begins a new scan (R7), and a strobe at a period
expiry counts in the new period (R8): in each case the two events come to the same state whichever is taken first. -/
def Obligations.OrdersAtOneInstant : Prop :=
  (∀ (fan occ : Bool) (v : Int) (s : State) (T : Timers) (x : Scan), s.running = true → s.timers = some T →
      T.now ≤ T.nextStrobe → s.cfg.scanInterval ∣ T.nextStrobe → s.acq.scan = some x → s.acq.nextScan = none →
      x.position = s.cfg.scanList.length → x.strobe + 4 * x.position = T.nextStrobe →
      ∃ a b t, exec (.scanStrobe fan occ) s = .next a ∧ exec (.conversionComplete v) a = .next t
        ∧ exec (.conversionComplete v) s = .next b ∧ exec (.scanStrobe fan occ) b = .next t
        ∧ t.acq.scan = some { strobe := T.nextStrobe, position := 1 } ∧ t.acq.occRef = some occ)
    ∧ (∀ (fan occ : Bool) (s : State) (T : Timers), s.running = true → s.evaluating = false → s.timers = some T →
      T.now ≤ T.nextStrobe → s.cfg.scanInterval ∣ T.nextStrobe → s.cfg.periodLength ∣ T.nextExpiry →
      T.nextExpiry = T.nextStrobe →
      ∃ a b t, exec (.scanStrobe fan occ) s = .next a ∧ exec .periodExpiry a = .next t
        ∧ exec .periodExpiry s = .next b ∧ exec (.scanStrobe fan occ) b = .next t ∧ t.acq.frozen = s.acq.active)

/-- CONVERSION_COMPLETE (R9, R11 to R13, R15, R16, R49). Outside an evaluation, before the scan's last position, the sample is
drained into the counts of its role, and a plausible valve code into the collector. During an evaluation, at any
position, it waits, or is lost at a FIFO of 12 with SAMPLE_LOSS set, and the sequencer goes on. That a conversion taken
late leaves the tu clock where it stands is the model's choice, log entry 1. -/
def Obligations.ConversionWithinScan : Prop :=
  (∀ (v : Int) (s : State) (T : Timers) (x : Scan) (r : Role), s.running = true → s.evaluating = false →
      s.timers = some T → T.now ≤ x.strobe + 4 * x.position → s.acq.scan = some x → s.acq.fifo = [] →
      x.position < s.cfg.scanList.length → s.cfg.roleOf (s.cfg.scanList.getD (x.position - 1) 0) = some r →
      ∃ t, exec (.conversionComplete v) s = .next t
        ∧ (let n := s.acq.active.counts.get r
           let code := conversionCode v
           let good := 16 ≤ code ∧ code ≤ 4079
           let counted : RoleCounts :=
             if good then ⟨n.sum + code, n.valid + 1, n.invalid⟩ else ⟨n.sum, n.valid, n.invalid + 1⟩
           t.acq = { s.acq with
             scan := some { x with position := x.position + 1 }
             active := { s.acq.active with counts := s.acq.active.counts.set r counted }
             tracker := { s.acq.tracker with
               hvc := if r = .hvc ∧ good then some code else s.acq.tracker.hvc
               cvc := if r = .cvc ∧ good then some code else s.acq.tracker.cvc } })
        ∧ t.timers = some { T with now := x.strobe + 4 * x.position }
        ∧ t.eval = s.eval ∧ t.locals = s.locals ∧ t.table = s.table ∧ t.line = s.line ∧ KeepsReport s t
        ∧ t.loader = s.loader ∧ t.pending = s.pending)
    ∧ (∀ (v : Int) (s : State) (x : Scan), s.running = true → s.evaluating = true → s.acq.scan = some x →
      s.acq.fifo.length ≤ 12 →
      ∃ t, exec (.conversionComplete v) s = .next t
        ∧ t.acq = { s.acq with
            scan := if x.position < s.cfg.scanList.length then some { x with position := x.position + 1 }
                    else s.acq.nextScan.map (fun strobe => { strobe := strobe, position := 1 })
            nextScan := if x.position < s.cfg.scanList.length then s.acq.nextScan else none
            fifo := if s.acq.fifo.length < 12 then s.acq.fifo ++ [formSample s.cfg x.position v] else s.acq.fifo }
        ∧ t.report.flags = (if s.acq.fifo.length < 12 then s.report.flags
                            else { s.report.flags with sampleLoss := true })
        ∧ t.timers = s.timers.map (fun T => { T with now := max T.now (x.strobe + 4 * x.position) })
        ∧ t.report.findings = s.report.findings ∧ t.eval = s.eval ∧ t.locals = s.locals ∧ t.table = s.table
        ∧ t.line = s.line ∧ t.loader = s.loader ∧ t.pending = s.pending)

/-- CONVERSION_COMPLETE at the scan's last position, outside an evaluation (R9, R16, R50, R53): the scan ends, its sample
counts in its role, the collector is emptied, and a reversal counts in the active bank. -/
def Obligations.ScanEndDrained : Prop :=
  ∀ (v : Int) (s : State) (T : Timers) (x : Scan) (r : Role), s.running = true → s.evaluating = false →
    s.timers = some T → T.now ≤ x.strobe + 4 * x.position → s.acq.scan = some x → s.acq.nextScan = none →
    s.acq.fifo = [] → x.position = s.cfg.scanList.length →
    s.cfg.roleOf (s.cfg.scanList.getD (x.position - 1) 0) = some r →
    ∃ t, exec (.conversionComplete v) s = .next t
      ∧ (let offered := s.acq.tracker.collect (some r) (formSample s.cfg x.position v)
         let ended := offered.scanEnd s.cfg
         t.acq.tracker = ended.1 ∧ ended.1.hvc = none ∧ ended.1.cvc = none
           ∧ (offered.effort s.cfg = none → ended.2 = false ∧ ended.1.direction = s.acq.tracker.direction
               ∧ ended.1.extreme = s.acq.tracker.extreme)
           ∧ t.acq.active.reversals = s.acq.active.reversals + (if ended.2 then 1 else 0))
      ∧ t.acq.active.scansTaken = s.acq.active.scansTaken ∧ t.acq.active.fan = s.acq.active.fan
      ∧ t.acq.active.occChanged = s.acq.active.occChanged ∧ t.acq.active.occLast = s.acq.active.occLast
      ∧ t.acq.active.counts = s.acq.active.counts.set r
          ((s.acq.active.counts.get r).take (formSample s.cfg x.position v))
      ∧ t.timers = some { T with now := x.strobe + 4 * x.position }
      ∧ t.acq.boundary = s.acq.boundary ∧ t.acq.nextScan = none ∧ t.acq.scan = none ∧ t.acq.fifo = [] ∧ t.acq.frozen = s.acq.frozen ∧ t.acq.occRef = s.acq.occRef
      ∧ t.eval = s.eval ∧ t.locals = s.locals ∧ t.table = s.table ∧ t.line = s.line ∧ KeepsReport s t
      ∧ t.loader = s.loader ∧ t.pending = s.pending

/-- R50 to R52: a scan is skipped when a mapped valve has no code in the collector, which is emptied; otherwise its effort
is the HVC code minus the CVC code, an unmapped valve counting as 0, and is applied to the tracker. -/
def Obligations.TrackerTurns : Prop :=
  (∀ (c : Configuration) (t : Tracker),
    let skipped := (c.mapped .hvc = true ∧ t.hvc = none) ∨ (c.mapped .cvc = true ∧ t.cvc = none)
    let code := fun (valve : Role) (collected : Option Nat) => if c.mapped valve = true then collected.getD 0 else 0
    (skipped → t.effort c = none ∧ t.scanEnd c = ({ t with hvc := none, cvc := none }, false))
      ∧ (¬skipped → t.effort c = some ((code .hvc t.hvc : Int) - (code .cvc t.cvc : Int)))) ∧
  ∀ (c : Configuration) (t : Tracker) (e : Int), t.effort c = some e →
    let after := t.scanEnd c
    let band : Int := c.params.huntDeadband
    after.1.hvc = none ∧ after.1.cvc = none ∧
    (t.extreme = none → after.1.extreme = some e ∧ after.1.direction = t.direction ∧ after.2 = false) ∧
    ∀ x, t.extreme = some x →
      (t.direction = .none →
        after.2 = false ∧ (e - x > band → after.1.direction = .up ∧ after.1.extreme = some e)
          ∧ (x - e > band → after.1.direction = .down ∧ after.1.extreme = some e)
          ∧ (e - x ≤ band → x - e ≤ band → after.1.direction = .none ∧ after.1.extreme = some x)) ∧
      (t.direction = .up →
        (e > x → after.1.direction = .up ∧ after.1.extreme = some e ∧ after.2 = false)
          ∧ (x - e > band → after.1.direction = .down ∧ after.1.extreme = some e ∧ after.2 = true)
          ∧ (e ≤ x → x - e ≤ band → after.1.direction = .up ∧ after.1.extreme = some x ∧ after.2 = false)) ∧
      (t.direction = .down →
        (e < x → after.1.direction = .down ∧ after.1.extreme = some e ∧ after.2 = false)
          ∧ (e - x > band → after.1.direction = .up ∧ after.1.extreme = some e ∧ after.2 = true)
          ∧ (x ≤ e → e - x ≤ band → after.1.direction = .down ∧ after.1.extreme = some x ∧ after.2 = false))

/-! ### Evaluation periods (chapter 2) -/

/-- PERIOD_EXPIRY (R22, R24, R84, R93 to R95, R116, R134): the banks change places, the sequence advances, the duplicate timer
falls, and an evaluation of 20 + 5 × N tu begins over the entries that stand; every age rises, an entry at 240 leaves,
and one that turns LOST loses a FOLLOWER ownership and may claim. The active record of an entry that leaves becomes
WITHDRAWN (R73, R162), that of one that claims has holder SELF (R161). That a finding telegram keeps its place when its
record is withdrawn silently is the model's choice, log entry 28. -/
def Obligations.PeriodExpiry : Prop :=
  (∀ (s : State) (T : Timers), s.running = true → s.evaluating = false → s.timers = some T → T.now ≤ T.nextExpiry →
      s.cfg.periodLength ∣ T.nextExpiry →
      ∃ t, exec .periodExpiry s = .next t
        ∧ t.timers = some { T with now := T.nextExpiry, nextExpiry := T.nextExpiry + s.cfg.periodLength }
        ∧ t.acq = { s.acq with frozen := s.acq.active, active := s.acq.boundary.getD .cleared, boundary := none }
        ∧ t.eval = { s.eval with sequence := s.eval.sequence + 1,
                                 inFlight := some (T.nextExpiry + (20 + 5 * t.table.entries.length)) }
        ∧ t.table.duplicateTimer = s.table.duplicateTimer - 1
        ∧ t.report.flags = s.report.flags ∧ t.locals = s.locals ∧ t.loader = s.loader ∧ t.pending = s.pending)
    ∧ (∀ (s : State) (T : Timers), s.running = true → s.evaluating = false → s.timers = some T → s.StationsDistinct →
      ∃ t, exec .periodExpiry s = .next t
        ∧ t.table.entries = s.table.entries.filterMap (fun e =>
            let age := min 255 (e.age + 1)
            let lets := age = 4 ∧ e.ownership = .follower
            let claims := lets ∧ e.pair.state.confirmedOrRecovering = true
            if 240 ≤ age then none
            else some { e with
              age := age
              ownership := if claims then .claiming else if lets then .unheld else e.ownership
              claimAttempts := if claims then 0 else e.claimAttempts })
        ∧ (t.table.saturated = true ↔ s.table.saturated = true ∧ ∀ e ∈ s.table.entries, e.age < 239)
        ∧ (∀ f : Finding, (∀ e ∈ s.table.entries, f.key = pairKey e.station → e.age ≠ 3 ∧ e.age < 239) →
            (f ∈ t.report.findings ↔ f ∈ s.report.findings))
        ∧ (∀ e ∈ s.table.entries, e.pair.state.confirmedOrRecovering = true →
            (239 ≤ e.age → RecordWithdrawn (pairKey e.station) s t)
            ∧ (e.age = 3 → e.ownership = .follower → ∀ f ∈ s.report.findings, f.key = pairKey e.station →
                f.status.isActive = true → { f with holder := .self } ∈ t.report.findings))
        ∧ (∀ q : Queued, (∀ p, q.telegram ≠ .claim p) → (q ∈ t.line.queue ↔ q ∈ s.line.queue))
        ∧ t.line.tracking = s.line.tracking ∧ t.line.idle = s.line.idle ∧ t.line.received = s.line.received
        ∧ t.line.restartPending = s.line.restartPending)

/-- R31, R32: what a reliable role is, and how its mean rounds. -/
def Obligations.ReliabilityAndMean : Prop :=
  ∀ (c : Configuration) (b : Bank) (r : Role),
    let n := b.counts.get r
    (reliable c b r = true ↔
      c.mapped r = true ∧ c.expectedScans ≤ 2 * b.scansTaken ∧ b.scansTaken * c.multiplicity r ≤ 2 * n.valid)
      ∧ ((meanOf c b r).isSome = reliable c b r)
      ∧ ∀ m, meanOf c b r = some m → 0 < n.valid →
          2 * m * n.valid ≤ 2 * n.sum + n.valid ∧ 2 * n.sum < (2 * m + 1) * n.valid
            ∧ (16 * n.valid ≤ n.sum → n.sum ≤ 4079 * n.valid → 16 ≤ m ∧ m ≤ 4079)

/-- EVALUATION_COMPLETION (R12, R24 to R26, R28, R29, R33 to R35): the epoch rises by 1 exactly when a cause holds, the
references and the published summary take the period's values, and the evaluation is over; the FIFO drains in order into
the active bank, a digest stands in the transmit queue, and nothing waits any more: a digest that bears the own number
has set the duplicate timer. R163: behind what else joins the transmit queue, a FINDING joins for each SELF record not
announced and not yet in it, in list order, up to four. R28, R129, R161, R162: the outcome held for a claim is applied to
the candidate as the evaluation left it, and discarded where that released it; of the pair's record this is said where
the records agree with the candidates (`RecordsMatch`). That W doubles then for a held contention
loss is deduced, log entry 11; that a corroborated record stays so, log entry 18. -/
def Obligations.EvaluationCompletion : Prop :=
  (∀ (s : State) (T : Timers) (instant : Nat), s.running = true → s.timers = some T → s.eval.inFlight = some instant →
      T.now ≤ instant →
      let b := s.acq.frozen
      let cause := b.occChanged = true
        ∨ (∃ x y, b.occLast = some x ∧ s.eval.refOcc = some y ∧ x ≠ y)
        ∨ (∃ y, s.eval.refFan = some y ∧ y ≠ fanProven b)
        ∨ (∃ m r, meanOf s.cfg b .spt = some m ∧ s.eval.refSpt = some r
            ∧ s.cfg.params.setpointStep < ((m : Int) - (r : Int)).natAbs)
        ∨ s.eval.firstEvaluation = true
      ∃ t, exec .evaluationCompletion s = .next t
        ∧ (t.eval.epochChanged = true ↔ cause)
        ∧ t.eval.epoch = (if t.eval.epochChanged then s.eval.epoch + 1 else s.eval.epoch)
        ∧ t.eval.firstEvaluation = false ∧ t.eval.sequence = s.eval.sequence ∧ t.eval.inFlight = none
        ∧ t.eval.refOcc = b.occLast ∧ t.eval.refFan = some (fanProven b) ∧ t.eval.refSpt = meanOf s.cfg b .spt
        ∧ t.eval.summary = some
            { sequence := s.eval.sequence, epoch := t.eval.epoch, fanProven := fanProven b
              effortValid := effortValid s.cfg b, effort := meanEffort s.cfg b
              hunting := (huntingVerdict s.cfg b t.eval.epochChanged).isEvidence }
        ∧ t.timers = some { T with now := instant } ∧ t.loader = s.loader ∧ t.pending = s.pending)
    ∧ (∀ s : State, s.running = true → s.evaluating = true →
      ∃ t, exec .evaluationCompletion s = .next t ∧ t.line.received = [] ∧ t.line.held = []
        ∧ t.line.holds .digest = true
        ∧ t.acq = s.acq.fifo.foldl (Acquisition.drain s.cfg) { s.acq with fifo := [] }
        ∧ t.acq.fifo = [] ∧ t.acq.frozen = s.acq.frozen ∧ t.line.tracking = s.line.tracking
        ∧ t.line.idle = s.line.idle ∧ t.line.mark = s.line.mark ∧ t.line.restartPending = s.line.restartPending
        ∧ ((∃ d, Received.digest s.own d ∈ s.line.received) → t.table.duplicateTimer = 4)
        ∧ ((s.report.findings.map Finding.key).Nodup → ∃ before : List Queued,
            FindingsQueued t.report.findings before t.line.queue
              ∧ (∃ q ∈ before, q.telegram = .digest)
              ∧ ∀ q ∈ before, q.telegram.isFinding = true → q ∈ s.line.queue))
    ∧ (∀ (s : State) (p : Nat) (e : Entry) (o : AttemptEnd), s.running = true → s.evaluating = true →
      s.StationsDistinct → s.entry p = some e → e.ownership = .claiming → s.line.received = [] →
      s.line.held = [{ peer := p, outcome := o }] →
      ∃ t own, exec .evaluationCompletion s = .next t ∧ t.eval.summary = some own ∧
        let g := e.evaluate s.cfg.params.fightEffort own
        let settled : Entry := { g with ownership := .holder, claimAttempts := 0 }
        let recorded := fun (change : Finding → Finding) =>
          s.RecordsMatch → ∀ f ∈ s.report.findings, f.key = pairKey p → f.status.reports e.pair.state = true →
            let r := change { f with
              status := if g.pair.state = .confirmed then .confirmed else .recovering, peak := max f.peak g.pair.score }
            r.status.isActive = true ∨ ¬(r.acknowledged = true ∧ r.announced = true) → r ∈ t.report.findings
        let alone := ∀ f ∈ s.table.entries, f.ownership = .claiming → f.station = p
        (e.pair.state = .recovering → g.pair.state = .clear →
          t.entry p = some { g with ownership := .unheld, claimAttempts := 0 } ∧ t.line.holds (.claim p) = false) ∧
        (g.pair.state.confirmedOrRecovering = true →
          (o = .concur ∨ o = .noMark → t.entry p = some settled ∧ t.line.holds (.claim p) = false ∧ t.line.window = 8
            ∧ t.report.flags = s.report.flags
            ∧ recorded (fun f => { f with
                holder := .self, announced := false, corroborated := f.corroborated || o == .concur })) ∧
          (o = .stale →
            t.entry p = some { g with
              pair := { g.pair with score := 256, state := .suspect }, ownership := .unheld, claimAttempts := 0
              reservedOwn := t.eval.epoch, reservedPeer := e.lastDigest.epoch }
            ∧ t.line.holds (.claim p) = false ∧ t.line.window = 8 ∧ t.report.flags = s.report.flags
            ∧ recorded (fun f => { f with
                status := .withdrawn, announced := !(f.holder == .self && f.reportedActive) })) ∧
          (o = .repeatMark ∨ o = .contentionLoss →
            (e.claimAttempts + 1 < 16 → t.entry p = some { g with claimAttempts := e.claimAttempts + 1 }
              ∧ t.line.holds (.claim p) = s.line.holds (.claim p) ∧ t.report.flags = s.report.flags
              ∧ recorded id
              ∧ (alone →
                  t.line.window = if o = .repeatMark then s.line.window else min 64 (2 * s.line.window))) ∧
            (16 ≤ e.claimAttempts + 1 → t.entry p = some settled ∧ t.line.holds (.claim p) = false
              ∧ t.line.window = 8 ∧ t.report.flags = { s.report.flags with telegramDiscarded := true }
              ∧ recorded (fun f => { f with holder := .self, announced := false })))))

/-! ### Air-side assessments (chapter 3) -/

/-- R40: magnitude and sign of the raw fraction, where it is exact, and where an exact half arises. -/
def Obligations.RawFraction : Prop :=
  ∀ num spread : Int, spread ≠ 0 →
    (rawFraction num spread).natAbs = (2 * num.natAbs * 1024 + spread.natAbs) / (2 * spread.natAbs)
      ∧ (rawFraction num spread ≠ 0 → (rawFraction num spread).sign = num.sign * spread.sign)
      ∧ (num = 0 → rawFraction num spread = 0)
      ∧ (spread ∣ num * 1024 → rawFraction num spread * spread = num * 1024)
      ∧ 2 * (rawFraction num spread * spread - num * 1024).natAbs ≤ spread.natAbs
      ∧ (2 * (rawFraction num spread * spread - num * 1024).natAbs = spread.natAbs →
          (num * 1024).natAbs < (rawFraction num spread * spread).natAbs)
      ∧ (spread.natAbs ≤ 4063 →
          ((∃ k, num * 2048 = spread * (2 * k + 1)) ↔ spread.natAbs = 2048 ∧ num % 2 = 1))

/-- R45: the DAMPER_STUCK outcome of every pair of path results, and a station that has neither path. -/
def Obligations.DamperOutcome : Prop :=
  (∀ f, damperVerdict .flags f = .evidence 64) ∧ (∀ a, damperVerdict a .flags = .evidence 64)
    ∧ damperVerdict .clears .clears = .noEvidence ∧ damperVerdict .clears .blind = .noEvidence
    ∧ damperVerdict .blind .clears = .noEvidence ∧ damperVerdict .blind .blind = .notAssessable
    ∧ ∀ (c : Configuration) (b : Bank) (changed : Bool),
        (c.mapped .oat && c.mapped .rat && c.mapped .mat) = false → c.mapped .dmf = false →
        pathA c b = .blind ∧ pathF c b = .blind ∧ candidateActive c ⟨.damperStuck, 0⟩ = false
          ∧ localVerdict c b changed ⟨.damperStuck, 0⟩ = .notAssessable

/-- R39, R42, R43, R44: when each damper path flags, and when it is assessable; the expected fraction of path A, its
scaled command rounded to nearest, within 0 to 1024 for the means and the oa_min that the part admits. -/
def Obligations.DamperPaths : Prop :=
  ∀ (c : Configuration) (b : Bank),
    let expected := fun dmc : Nat => c.params.oaMin + ((1024 - c.params.oaMin) * dmc + 2047) / 4095
    (∀ dmc : Nat, c.params.oaMin ≤ 512 → 16 ≤ dmc → dmc ≤ 4079 →
        expected dmc ≤ 1024 ∧ c.params.oaMin ≤ expected dmc
          ∧ (4095 * ((expected dmc : Int) - c.params.oaMin) - (1024 - (c.params.oaMin : Int)) * dmc).natAbs ≤ 2047)
      ∧ (pathA c b ≠ .blind ↔ ∃ oat rat mat dmc : Nat, meanOf c b .oat = some oat ∧ meanOf c b .rat = some rat
        ∧ meanOf c b .mat = some mat ∧ meanOf c b .dmc = some dmc ∧ b.fan = .proven
        ∧ c.params.minSpread ≤ ((oat : Int) - rat).natAbs
        ∧ -64 ≤ rawFraction ((mat : Int) - rat) ((oat : Int) - rat)
        ∧ rawFraction ((mat : Int) - rat) ((oat : Int) - rat) ≤ 1088)
      ∧ (pathA c b = .flags → ∃ oat rat mat dmc : Nat, meanOf c b .oat = some oat ∧ meanOf c b .rat = some rat
        ∧ meanOf c b .mat = some mat ∧ meanOf c b .dmc = some dmc
        ∧ c.params.damperTol < (max 0 (min 1024 (rawFraction ((mat : Int) - rat) ((oat : Int) - rat)))
            - (expected dmc : Int)).natAbs)
      ∧ (pathA c b = .clears → ∃ oat rat mat dmc : Nat, meanOf c b .oat = some oat ∧ meanOf c b .rat = some rat
        ∧ meanOf c b .mat = some mat ∧ meanOf c b .dmc = some dmc
        ∧ (max 0 (min 1024 (rawFraction ((mat : Int) - rat) ((oat : Int) - rat)))
            - (expected dmc : Int)).natAbs ≤ c.params.damperTol)
      ∧ (pathF c b = .flags ↔ ∃ dmf dmc : Nat, meanOf c b .dmf = some dmf ∧ meanOf c b .dmc = some dmc
        ∧ c.params.fbTol < ((dmf : Int) - dmc).natAbs)
      ∧ (pathF c b = .clears ↔ ∃ dmf dmc : Nat, meanOf c b .dmf = some dmf ∧ meanOf c b .dmc = some dmc
        ∧ ((dmf : Int) - dmc).natAbs ≤ c.params.fbTol)

/-- R46, R47: the two leakage outcomes from the residual, and that one period never accuses both valves. -/
def Obligations.LeakageOutcomes : Prop :=
  ∀ (c : Configuration) (b : Bank),
    let judged := reliable c b .mat = true ∧ reliable c b .dat = true ∧ b.fan = .proven
      ∧ ∀ valve, valve = Role.hvc ∨ valve = Role.cvc → c.mapped valve = true →
          ∃ m, meanOf c b valve = some m ∧ m ≤ c.params.closedBand
    (coolLeakVerdict c b ≠ .notAssessable ↔ judged ∧ c.mapped .cvc = true)
      ∧ (heatLeakVerdict c b ≠ .notAssessable ↔ judged ∧ c.mapped .hvc = true)
      ∧ (∀ mat dat : Nat, judged → meanOf c b .mat = some mat → meanOf c b .dat = some dat →
          let r : Int := (dat : Int) - mat - c.params.fanRise
          (c.mapped .cvc = true →
            coolLeakVerdict c b = if r < -(c.params.leakDt : Int) then .evidence 48 else .noEvidence) ∧
          (c.mapped .hvc = true →
            heatLeakVerdict c b = if r > (c.params.leakDt : Int) then .evidence 48 else .noEvidence))
      ∧ ¬(coolLeakVerdict c b = .evidence 48 ∧ heatLeakVerdict c b = .evidence 48)

/-- R48, R54, R56, R57: simultaneous heating and cooling, hunting with its flag, and the mean effort; R59: point faults. -/
def Obligations.ValveAndPointOutcomes : Prop :=
  (∀ (c : Configuration) (b : Bank) (e : Evaluator),
      let usable := ∀ valve, valve = Role.hvc ∨ valve = Role.cvc → c.mapped valve = true → reliable c b valve = true
      let some_mapped := c.mapped .hvc = true ∨ c.mapped .cvc = true
      let quiet := b.fan = .proven ∧ e.epochChanged = false
      (simultVerdict c b e.epochChanged ≠ .notAssessable ↔
          reliable c b .hvc = true ∧ reliable c b .cvc = true ∧ quiet)
        ∧ (simultVerdict c b e.epochChanged = .evidence 64 ↔ quiet ∧ ∃ h v, meanOf c b .hvc = some h
            ∧ meanOf c b .cvc = some v ∧ c.params.openBand < h ∧ c.params.openBand < v)
        ∧ (huntingVerdict c b e.epochChanged ≠ .notAssessable ↔ some_mapped ∧ usable ∧ quiet)
        ∧ ((periodSummary c b e).hunting = true ↔ some_mapped ∧ usable ∧ quiet ∧ c.params.huntReversals ≤ b.reversals)
        ∧ ((periodSummary c b e).effortValid = true ↔ some_mapped ∧ usable)
        ∧ ((periodSummary c b e).effort = if effortValid c b then
              (((meanOf c b .hvc).getD 0 : Nat) : Int) - (((meanOf c b .cvc).getD 0 : Nat) : Int) else 0))
    ∧ (∀ (c : Configuration) (b : Bank) (changed : Bool) (r : Role),
      let n := b.counts.get r
      localVerdict c b changed ⟨.pointFault, r.number⟩ =
        if c.mapped r = true then
          if 0 < n.invalid ∧ n.valid + n.invalid ≤ 4 * n.invalid then .evidence 128 else .noEvidence
        else .notAssessable)

/-! ### Evidence scores (chapter 4) -/

/-- R63, R66, R67: the new score of an outcome, and the state that the new score leads to from the state before; R64: the
decay of each kind, and the gain that EVIDENCE of each kind carries. -/
def Obligations.ScoresGainsAndDecays : Prop :=
  (∀ (k : Kind) (v : Verdict) (c : Scored),
      let d := c.update k v
      d.last = some v
        ∧ (∀ g, v = .evidence g → d.score = min 1023 (c.score + g))
        ∧ (v = .noEvidence → d.score = c.score - k.decay)
        ∧ (v = .notAssessable → d.score = c.score)
        ∧ (c.state = .clear → d.state = if 256 ≤ d.score then .suspect else .clear)
        ∧ (c.state = .suspect → d.state =
            if 768 ≤ d.score then .confirmed else if d.score ≤ 64 then .clear else .suspect)
        ∧ (c.state = .confirmed → d.state = if d.score ≤ 384 then .recovering else .confirmed)
        ∧ (c.state = .recovering → d.state =
            if 768 ≤ d.score then .confirmed else if d.score ≤ 64 then .clear else .recovering))
    ∧ ((Kind.decay .damperStuck = 32 ∧ Kind.decay .coolLeak = 24 ∧ Kind.decay .heatLeak = 24 ∧ Kind.decay .simultHc = 64
        ∧ Kind.decay .hunting = 16 ∧ Kind.decay .pointFault = 64 ∧ Kind.decay .crossFight = 32)
      ∧ (∀ (c : Configuration) (b : Bank) (changed : Bool) (k : Key) (g : Nat),
          localVerdict c b changed k = .evidence g →
            (k.kind = .damperStuck ∧ g = 64) ∨ (k.kind = .coolLeak ∧ g = 48) ∨ (k.kind = .heatLeak ∧ g = 48)
              ∨ (k.kind = .simultHc ∧ g = 64) ∨ (k.kind = .hunting ∧ g = 48) ∨ (k.kind = .pointFault ∧ g = 128))
      ∧ ∀ (fight : Nat) (own : Summary) (held : Bool) (e : Entry) (g : Nat), pairVerdict fight own held e = .evidence g →
          g = if own.hunting = true ∧ e.lastDigest.hunting = true then 80 else 48)

/-- EVALUATION_COMPLETION (R61, R63, R66, R69, R159): every active local candidate takes the outcome of the frozen record,
every inactive one is as before; one that confirms has a new record, SELF and unannounced, its peak the confirming score and
its occurrences one more than those of an old record of its key. Where such an old record stands, the list is to have
room for what may confirm before it, so that no earlier record of this completion removes the old one (R159). R160: the
active record of a candidate takes its new state as status, and its new score as peak where that is higher; one whose
candidate goes from RECOVERING to CLEAR is RETIRED, to be told where the holder is SELF, and stays where the list has
room for what may confirm after it, unless R166 removes it. -/
def Obligations.LocalCandidatesScored : Prop :=
  (∀ s : State, s.running = true → s.evaluating = true →
      ∃ t, exec .evaluationCompletion s = .next t
        ∧ t.locals = s.locals.map (fun x =>
            if x.active then
              { x with scored := x.scored.update x.key.kind (localVerdict s.cfg s.acq.frozen t.eval.epochChanged x.key) }
            else x))
    ∧ (∀ (s : State) (x : LocalCandidate), s.running = true → s.evaluating = true → s.ListBounded → x ∈ s.locals →
      x.active = true → x.scored.state = .suspect →
      s.record x.key = none ∨ s.report.findings.length + s.locals.countP (fun y => y.scored.state == .suspect) ≤ 25 →
      ∃ t, exec .evaluationCompletion s = .next t ∧
        ∀ v, v = localVerdict s.cfg s.acq.frozen t.eval.epochChanged x.key → 768 ≤ nextScore x.key.kind v x.scored.score →
          { key := x.key, status := .confirmed, holder := .self, corroborated := false, acknowledged := false
            announced := false, reportedActive := false
            occurrences := (match s.record x.key with
              | none => 1
              | some old => min 255 (old.occurrences + 1))
            peak := nextScore x.key.kind v x.scored.score, sequence := s.eval.sequence : Finding } ∈ t.report.findings)
    ∧ (∀ (s : State) (x : LocalCandidate) (f : Finding), s.running = true → s.evaluating = true → s.ListBounded →
      x ∈ s.locals → x.active = true → f ∈ s.report.findings → f.key = x.key → f.status.isActive = true →
      ∃ t, exec .evaluationCompletion s = .next t ∧
        let y := x.scored.update x.key.kind (localVerdict s.cfg s.acq.frozen t.eval.epochChanged x.key)
        (y.state = .confirmed → { f with status := .confirmed, peak := max f.peak y.score } ∈ t.report.findings)
          ∧ (y.state = .recovering → { f with status := .recovering, peak := max f.peak y.score } ∈ t.report.findings)
          ∧ (y.state = .clear → s.report.findings.length + s.mayConfirm ≤ 24 →
              let r := { f with status := .retired, announced := if f.holder = .self then false else f.announced }
              ¬(r.acknowledged = true ∧ r.announced = true) → r ∈ t.report.findings))

/-! ### Pair candidates (chapter 6) -/

/-- R105: opposite efforts. -/
def Obligations.OppositeEfforts : Prop :=
  ∀ (fight : Nat) (own peer : Int),
    (opposite fight own peer = true ↔
        (fight : Int) ≤ own ∧ peer ≤ -(fight : Int) ∨ own ≤ -(fight : Int) ∧ (fight : Int) ≤ peer)
      ∧ (205 ≤ fight → 0 < own * peer → opposite fight own peer = false)
      ∧ (own.natAbs < fight ∨ peer.natAbs < fight → opposite fight own peer = false)

/-- R104, R106, R107: the pair outcome of an entry, and the decay of its NO_EVIDENCE. -/
def Obligations.PairOutcome : Prop :=
  ∀ (fight : Nat) (own : Summary) (held : Bool) (e : Entry),
    let assessable := e.age ≤ 1 ∧ own.effortValid = true ∧ e.lastDigest.effortValid = true ∧ own.fanProven = true
      ∧ e.lastDigest.fanProven = true ∧ held = false
    (¬assessable → pairVerdict fight own held e = .notAssessable)
      ∧ (assessable → opposite fight own.effort e.lastDigest.effort = false →
          pairVerdict fight own held e = .noEvidence)
      ∧ (assessable → opposite fight own.effort e.lastDigest.effort = true →
          pairVerdict fight own held e =
            .evidence (if own.hunting = true ∧ e.lastDigest.hunting = true then 80 else 48))
      ∧ ∀ c : Scored, (c.update .crossFight .noEvidence).score = c.score - 32

/-- R101 to R103, R108: one entry at an evaluation. -/
def Obligations.ReservationCheck : Prop :=
  ∀ (fight : Nat) (own : Summary) (e : Entry),
    let lost := e.age ≤ 1 ∧ (e.reservedOwn ≠ own.epoch ∨ e.reservedPeer ≠ e.lastDigest.epoch)
    let f := e.evaluate fight own
    (¬lost → f.reservedOwn = e.reservedOwn ∧ f.reservedPeer = e.reservedPeer
        ∧ f.pair = e.pair.update .crossFight (pairVerdict fight own false e))
      ∧ (lost → f.reservedOwn = own.epoch ∧ f.reservedPeer = e.lastDigest.epoch)
      ∧ (lost → e.pair.state.confirmedOrRecovering = true →
          f.pair = e.pair.update .crossFight .notAssessable)
      ∧ (lost → e.pair.state.confirmedOrRecovering = false →
          f.pair = Scored.update .crossFight (pairVerdict fight own false e) ⟨0, .clear, e.pair.last⟩
            ∧ f.pair.state = .clear ∧ f.pair.score ≤ 80)
      ∧ f.station = e.station ∧ f.matchSet = e.matchSet ∧ f.lastDigest = e.lastDigest ∧ f.age = e.age
      ∧ f.ownership = e.ownership ∧ f.claimAttempts = e.claimAttempts

/-- R98, R108, R116, R133 at EVALUATION_COMPLETION with nothing waiting: each entry evaluated, an ownership released with
its candidate, and a claim queued for every UNHELD candidate that is CONFIRMED or RECOVERING. R159, R160, R161: a pair
that confirms has a new record, announced, with the partner as holder where it is FOLLOWER and SELF otherwise; an active
record takes its candidate's new state as status and a higher score as peak, with holder SELF where a claim is queued;
one whose candidate clears is RETIRED. An old record is carried into the new one, and a RETIRED one stays, where the list
has room for what may confirm. -/
def Obligations.PairCandidatesScored : Prop :=
  ∀ s : State, s.running = true → s.evaluating = true → s.QueueLawful → s.line.received = [] → s.line.held = [] →
    ∃ t, exec .evaluationCompletion s = .next t ∧
      ∀ own, t.eval.summary = some own →
        t.table.entries = s.table.entries.map (fun e =>
          let f := e.evaluate s.cfg.params.fightEffort own
          let released := e.pair.state = .recovering ∧ f.pair.state = .clear
            ∧ (e.ownership = .holder ∨ e.ownership = .claiming)
          let claims := f.pair.state.confirmedOrRecovering = true ∧ e.ownership = .unheld
          { f with
            ownership := if released then .unheld else if claims then .claiming else e.ownership
            claimAttempts := if claims ∨ (released ∧ e.ownership = .claiming) then 0 else e.claimAttempts })
        ∧ (∀ e ∈ t.table.entries, e.ownership = .claiming → t.line.holds (.claim e.station) = true)
        ∧ t.table.saturated = s.table.saturated ∧ t.table.duplicateTimer = s.table.duplicateTimer
        ∧ t.report.flags = s.report.flags
        ∧ (∀ f ∈ t.report.findings, (∀ x ∈ s.locals, x.key ≠ f.key) →
            (∀ e ∈ s.table.entries, pairKey e.station ≠ f.key) → f ∈ s.report.findings)
        ∧ (s.ListBounded → ∀ e ∈ s.table.entries,
            let g := e.evaluate s.cfg.params.fightEffort own
            (e.pair.state = .suspect → g.pair.state = .confirmed →
              s.record (pairKey e.station) = none ∨ s.report.findings.length + s.mayConfirm ≤ 25 →
              { key := pairKey e.station, status := .confirmed
                holder := if e.ownership = .follower then .partner e.station else .self
                corroborated := false, acknowledged := false, announced := true, reportedActive := false
                occurrences := (match s.record (pairKey e.station) with
                  | none => 1
                  | some old => min 255 (old.occurrences + 1))
                peak := g.pair.score, sequence := s.eval.sequence : Finding } ∈ t.report.findings)
            ∧ ∀ f ∈ s.report.findings, f.key = pairKey e.station → f.status.isActive = true →
              let kept := { f with
                peak := max f.peak g.pair.score, holder := if e.ownership = Ownership.unheld then .self else f.holder }
              (g.pair.state = .confirmed → { kept with status := .confirmed } ∈ t.report.findings)
                ∧ (g.pair.state = .recovering → { kept with status := .recovering } ∈ t.report.findings)
                ∧ (g.pair.state = .clear → s.report.findings.length + s.mayConfirm ≤ 24 →
                    let r := { f with status := .retired, announced := if f.holder = .self then false else f.announced }
                    ¬(r.acknowledged = true ∧ r.announced = true) → r ∈ t.report.findings))

/-! ### The neighbour table (chapter 5) -/

/-- R78: a peer zone matches an own entry when both lie in one block of 2^k numbers. -/
def Obligations.ZoneMatching : Prop :=
  ∀ (z : OwnZone) (p : Nat),
    (z.accepts p = true ↔ 1 ≤ p ∧ p ≤ 254
        ∧ ∃ block, block * 2 ^ z.dontCare ≤ p ∧ p < (block + 1) * 2 ^ z.dontCare
            ∧ block * 2 ^ z.dontCare ≤ z.zone ∧ z.zone < (block + 1) * 2 ^ z.dontCare)
      ∧ (z.dontCare = 0 → (z.accepts p = true ↔ 1 ≤ p ∧ p ≤ 254 ∧ p = z.zone))

/-- R79, R90: the match set of a digest, and the entry that a newcomer may evict. -/
def Obligations.MatchSetAndEviction : Prop :=
  (∀ (c : Configuration) (zones : List Nat) (k : Nat),
      k ∈ c.matchSet zones ↔ 1 ≤ k ∧ k ≤ 4 ∧ ∃ z, c.zones.getD (k - 1) none = some z ∧ ∃ p ∈ zones, z.accepts p = true)
    ∧ (∀ t : NeighbourTable, t.evictable = none ↔ ∀ e ∈ t.entries, e.age ≤ 3)
    ∧ ∀ (t : NeighbourTable) (e : Entry), t.evictable = some e →
        4 ≤ e.age ∧ ∃ before after, t.entries = before ++ e :: after
          ∧ (∀ f ∈ before, f.age < e.age) ∧ ∀ f ∈ after, f.age ≤ e.age

/-- DIGEST_TAKEN from a known peer that still matches (R86, R87, R131, R132, R116): the entry is brought up to date, FRESH,
its candidate and reservation as before, with the ownership that restart flag and holder list leave. R161: its active
record has the partner as holder and is announced where the pair becomes FOLLOWER, a finding telegram that waits untold
being withdrawn; it has holder SELF where a FOLLOWER comes to claim; otherwise it is as before. -/
def Obligations.DigestSettlesOwnership : Prop :=
  ∀ (s : State) (source : Nat) (d : Digest) (rest : List Received) (e : Entry), s.running = true →
    s.evaluating = false → s.QueueLawful → s.line.received = .digest source d :: rest → source ≠ s.own →
    1 ≤ source → source ≤ 59 → d.zoneCount ≤ 4 → d.holderCount ≤ 8 → s.entry source = some e →
    s.cfg.matchSet d.zones ≠ [] →
    ∃ t f, exec .digestTaken s = .next t ∧ t.entry source = some f ∧ OnlyPair source s t
      ∧ f.age = 0 ∧ f.lastDigest = d.summary ∧ f.matchSet = s.cfg.matchSet d.zones
      ∧ f.pair = e.pair ∧ f.reservedOwn = e.reservedOwn ∧ f.reservedPeer = e.reservedPeer
      ∧ (e.ownership ≠ .follower → f.ownership = e.ownership → f.claimAttempts = e.claimAttempts)
      ∧ f.ownership =
          (if s.own ∈ d.holders then
            if e.ownership = .holder ∧ s.own < source then .holder else .follower
          else if e.ownership = .follower then
            if e.pair.state.confirmedOrRecovering = true then .claiming else .unheld
          else e.ownership)
      ∧ (t.line.holds (.claim source) = true ↔ f.ownership = .claiming)
      ∧ (let follows := f.ownership = .follower ∧ (e.ownership ≠ .follower ∨ d.restart = true)
         ∀ r ∈ s.report.findings, r.key = pairKey source → r.status.isActive = true →
          (if follows then { r with holder := .partner source, announced := true }
           else if f.ownership = .claiming ∧ e.ownership = .follower then { r with holder := .self }
           else r) ∈ t.report.findings
          ∧ (follows → r.holder = .self → r.announced = false → t.line.holds (.finding (pairKey source)) = false))
      ∧ t.table.entries.map Entry.station = s.table.entries.map Entry.station
      ∧ t.report.flags = s.report.flags ∧ t.line.received = rest

/-- DIGEST_TAKEN from a known peer that matches no longer (R88, R95): its entry leaves, saturation clears, and the
record of a confirmed candidate becomes WITHDRAWN. That a finding telegram keeps its place when its record is withdrawn
silently is the model's choice, log entry 28. -/
def Obligations.DigestRemovesEntry : Prop :=
  ∀ (s : State) (source : Nat) (d : Digest) (rest : List Received) (e : Entry), s.running = true →
    s.evaluating = false → s.line.received = .digest source d :: rest → source ≠ s.own → 1 ≤ source → source ≤ 59 →
    d.zoneCount ≤ 4 → d.holderCount ≤ 8 → s.entry source = some e → s.cfg.matchSet d.zones = [] →
    ∃ t, exec .digestTaken s = .next t ∧ KeepsCore s t
      ∧ t.table = { s.table with entries := s.table.entries.filter (fun f => f.station ≠ source), saturated := false }
      ∧ t.report.flags = s.report.flags
      ∧ (e.ownership = .claiming → t.line.holds (.claim source) = false)
      ∧ (e.pair.state.confirmedOrRecovering = false → t.report.findings = s.report.findings)
      ∧ (e.pair.state.confirmedOrRecovering = true → RecordWithdrawn (pairKey source) s t)
      ∧ (∀ f : Finding, f.key ≠ pairKey source → (f ∈ t.report.findings ↔ f ∈ s.report.findings))
      ∧ (∀ q : Queued, q.telegram ≠ .claim source → (q ∈ t.line.queue ↔ q ∈ s.line.queue))
      ∧ t.line.received = rest

/-- DIGEST_TAKEN from an unknown peer that matches (R89, R90, R91, R131): admitted at the end of table order, in place of
the evicted entry of a full table, or refused. A newcomer whose holder list names this station makes it a FOLLOWER at
once; any other is UNHELD. The active record of the evicted entry becomes WITHDRAWN (R73, R162). That a finding telegram keeps its place when the record of an evicted entry is withdrawn
silently is the model's choice, log entry 28. -/
def Obligations.DigestFromUnknownPeer : Prop :=
  ∀ (s : State) (source : Nat) (d : Digest) (rest : List Received), s.running = true → s.evaluating = false →
    s.line.received = .digest source d :: rest → source ≠ s.own → 1 ≤ source → source ≤ 59 → d.zoneCount ≤ 4 →
    d.holderCount ≤ 8 → s.entry source = none → s.cfg.matchSet d.zones ≠ [] →
    let newcomer : Entry :=
      { station := source, matchSet := s.cfg.matchSet d.zones, lastDigest := d.summary, age := 0
        pair := ⟨0, .clear, none⟩, ownership := if s.own ∈ d.holders then .follower else .unheld, claimAttempts := 0
        reservedOwn := s.eval.epoch, reservedPeer := d.summary.epoch }
    ∃ t, exec .digestTaken s = .next t ∧ KeepsCore s t
      ∧ t.line.received = rest
      ∧ (s.own ∈ d.holders → (t.entry source).isSome = true → ∀ f ∈ t.report.findings, f.key = pairKey source →
          f.status.isActive = true → f.holder = .partner source ∧ f.announced = true)
      ∧ (s.table.entries.length < 8 → t.report.flags = s.report.flags
          ∧ t.table = { s.table with entries := s.table.entries ++ [newcomer], saturated := false }
          ∧ (s.own ∉ d.holders → KeepsReport s t ∧ t.line.queue = s.line.queue)
          ∧ (∀ f : Finding, f.key ≠ pairKey source → (f ∈ t.report.findings ↔ f ∈ s.report.findings))
          ∧ ∀ q : Queued, q.telegram ≠ .finding (pairKey source) → (q ∈ t.line.queue ↔ q ∈ s.line.queue))
      ∧ (8 ≤ s.table.entries.length → ∀ old, s.table.evictable = some old → t.report.flags = s.report.flags
          ∧ t.table = { s.table with
              entries := s.table.entries.filter (fun f => f.station ≠ old.station) ++ [newcomer], saturated := false }
          ∧ (s.entry old.station = some old → old.pair.state.confirmedOrRecovering = true →
              RecordWithdrawn (pairKey old.station) s t)
          ∧ (∀ f : Finding, f.key ≠ pairKey old.station → (s.own ∈ d.holders → f.key ≠ pairKey source) →
              (f ∈ t.report.findings ↔ f ∈ s.report.findings))
          ∧ ∀ q : Queued, q.telegram ≠ .claim old.station →
              (s.own ∈ d.holders → q.telegram ≠ .finding (pairKey source)) →
              (q ∈ t.line.queue ↔ q ∈ s.line.queue))
      ∧ (8 ≤ s.table.entries.length → s.table.evictable = none →
          t.table = { s.table with saturated := true } ∧ t.report.fault = true
            ∧ t.report.flags = { s.report.flags with neighbourRefused := true }
            ∧ t.report.findings = s.report.findings ∧ t.line.queue = s.line.queue)

/-- DIGEST_TAKEN bearing the own number (R83): DUPLICATE_SEEN, the timer at 4, FAULT. From a number that names no station
(R85), from an unknown peer that does not match (R92), with counts past their bounds, or at a HALTED station (R82):
discarded, no flag set and no entry changed. -/
def Obligations.DigestWithoutEntry : Prop :=
  (∀ (s : State) (d : Digest) (rest : List Received), s.running = true → s.evaluating = false →
      s.line.received = .digest s.own d :: rest →
      ∃ t, exec .digestTaken s = .next t ∧ KeepsCore s t ∧ t.table = { s.table with duplicateTimer := 4 }
        ∧ t.report.flags = { s.report.flags with duplicateSeen := true } ∧ t.report.findings = s.report.findings
        ∧ t.report.fault = true ∧ t.line = Line.beginBackoff { s.line with received := rest })
    ∧ ((∀ (s : State) (source : Nat) (d : Digest) (rest : List Received), s.running = true → s.evaluating = false →
        s.numbered → s.line.received = .digest source d :: rest → source = 0 ∨ 60 ≤ source →
        ∃ t, exec .digestTaken s = .next t ∧ OnlyLine s t ∧ t.line = Line.beginBackoff { s.line with received := rest })
      ∧ (∀ (s : State) (source : Nat) (d : Digest) (rest : List Received), s.lineRuns = true → s.evaluating = false →
        s.line.received = .digest source d :: rest →
        s.halted = true ∨ (source ≠ s.own ∧ (4 < d.zoneCount ∨ 8 < d.holderCount
          ∨ s.entry source = none ∧ s.cfg.matchSet d.zones = [])) →
        ∃ t, exec .digestTaken s = .next t ∧ OnlyLine s t ∧ t.line = Line.beginBackoff { s.line with received := rest }))

/-! ### The line controller (chapter 8) -/

/-- LINE_IDLE (R139, R141): the line is idle, and a count below W is drawn exactly when an eligible telegram waits; the draw
is free, log entry 3. START_BIT_READ and DEFER (R139, R142): the station follows the telegram; a backoff ends without an
attempt, W and the counts as before. LEAVE_TELEGRAM (R138): the station is SEARCHING. REPEAT_PAUSE_END (R145): a pause
ends; that it is the one begun first is deduced, log entry 12. -/
def Obligations.LineFollowed : Prop :=
  (∀ s : State, s.lineRuns = true → s.line.idle = false →
    s.line.tracking = .afterWindow ∨ s.line.tracking = .searching → s.line.backoff = none → s.line.transmission = none →
    0 < s.line.window →
    ∃ t, exec .lineIdle s = .next t ∧ OnlyLine s t
      ∧ ((∀ q ∈ s.line.queue, s.line.eligible q.telegram = false) → t.line = { s.line with idle := true })
      ∧ ((∃ q ∈ s.line.queue, s.line.eligible q.telegram = true) →
          ∃ B, B < s.line.window ∧ t.line = { s.line with idle := true, backoff := some B, draws := s.line.draws + 1 }))
    ∧ (∀ s : State, s.lineRuns = true →
      (s.line.idle = true ∨ s.line.tracking = .afterWindow →
        ∃ t, exec .startBitRead s = .next t ∧ OnlyLine s t
          ∧ t.line = { s.line with tracking := .telegram none, idle := false, backoff := none })
      ∧ (s.line.backoff.isSome = true →
        ∃ t, exec .defer s = .next t ∧ OnlyLine s t
          ∧ t.line = { s.line with tracking := .telegram none, idle := false, backoff := none })
      ∧ (s.line.idle = false → s.line.tracking = .searching → exec .startBitRead s = .next s))
    ∧ (∀ (s : State) (n : Option Nat), s.lineRuns = true → s.line.transmission = none → s.line.tracking = .telegram n →
      ∃ t, exec .leaveTelegram s = .next t ∧ OnlyLine s t ∧ t.line = { s.line with tracking := .searching })
    ∧ (∀ (s : State) (o : Outgoing) (rest : List Outgoing), s.lineRuns = true → s.line.pauses = o :: rest →
      ∃ t, exec .repeatPauseEnd s = .next t ∧ OnlyLine s t ∧ t.line = Line.beginBackoff { s.line with pauses := rest })

/-- BACKOFF_END (R141, R142, R150): the first eligible telegram is gathered and its attempt begins; a finding telegram whose
record has gone is dropped, W returning to 8, and the next eligible one is sent at the same instant; with none left, no
attempt begins and the line stays idle. -/
def Obligations.BackoffEnds : Prop :=
  (∀ (s : State) (pre post : List Queued) (q : Queued) (tr : Transmission), s.lineRuns = true →
      s.line.backoff.isSome = true → s.line.queue = pre ++ q :: post →
      (∀ p ∈ pre, s.line.eligible p.telegram = false) → s.line.eligible q.telegram = true →
      s.gather q.telegram = some tr →
      ∃ t, exec .backoffEnd s = .next t ∧ OnlyLine s t
        ∧ t.line = { s.line with transmission := some tr, backoff := none, idle := false
                                 tracking := .telegram (some (byteAt tr.chars 4)) })
    ∧ (∀ (s : State) (pre post : List Queued) (q : Queued) (k : Key), s.lineRuns = true →
      s.line.backoff.isSome = true → s.line.queue = pre ++ q :: post → (s.line.queue.map Queued.telegram).Nodup →
      (∀ p ∈ pre, s.line.eligible p.telegram = false) → s.line.eligible q.telegram = true →
      q.telegram = .finding k → s.record k = none →
      ∃ t, exec .backoffEnd s = .next t ∧ OnlyLine s t ∧ t.line.holds (.finding k) = false ∧ t.line.window = 8
        ∧ t.line.backoff = none
        ∧ ((∀ p ∈ post, s.line.eligible p.telegram = false) →
            t.line = { s.line with queue := pre ++ post, backoff := none, window := 8
                                   pauses := s.line.pauses.filter fun o => o != .finding k })
        ∧ (∀ n ns tr, post = n :: ns → s.line.eligible n.telegram = true → s.gather n.telegram = some tr →
            t.line.transmission = some tr ∧ t.line.queue = pre ++ post ∧ t.line.idle = false))
    ∧ (∀ s : State, s.lineRuns = true → s.line.backoff.isSome = true →
      (∀ q ∈ s.line.queue, s.line.eligible q.telegram = false) →
      ∃ t, exec .backoffEnd s = .next t ∧ OnlyLine s t ∧ t.line = { s.line with backoff := none })

/-- R117, R130, R140, R147 to R152: what each telegram carries when it is gathered, byte by byte, its check passing; of a
REPLY, each of its three bodies. -/
def Obligations.GatheredContent : Prop :=
  ∀ (s : State) (o : Outgoing) (tr : Transmission), s.gather o = some tr →
    checkPasses tr.chars = true ∧ tr.telegram = o ∧ tr.inQueue = true
      ∧ (o = .digest → ∃ x, s.eval.summary = some x ∧ tr.restartFlag = s.line.restartPending ∧
          let zones := s.cfg.zones.filterMap fun z => z.map OwnZone.zone
          let holders := (s.table.entries.filter fun e => e.ownership = .holder).map Entry.station
          tr.chars = sealed (headed 1 s.own 63
            ([x.sequence, x.epoch,
              asByte ((if s.line.restartPending then 128 else 0) + (if x.fanProven then 64 else 0)
                + (if x.effortValid then 32 else 0) + (if x.hunting then 16 else 0)),
              asByte ((x.effort % 65536).toNat / 256), asByte (x.effort % 65536).toNat,
              asByte (16 * zones.length + holders.length)]
              ++ zones.map asByte ++ holders.map asByte)))
      ∧ (∀ p, o = .claim p → ∃ e, s.entry p = some e ∧
          tr.chars = sealed (headed 2 s.own p [s.eval.epoch, e.reservedPeer]))
      ∧ (∀ k, o = .finding k → ∃ r, s.record k = some r ∧ tr.status = some r.status ∧
          tr.chars = sealed (headed 3 s.own 63
            ([asByte r.key.kind.number, asByte r.key.subject, asByte r.status.code,
              if r.corroborated then 1#8 else 0#8, asByte r.occurrences, asByte (r.peak / 256), asByte r.peak,
              r.sequence])))
      ∧ (∀ terminal start flags, o = .reply terminal 1 start flags → ∃ station halt cause : Byte,
          tr.chars = sealed (headed 5 s.own terminal
              [1#8, 0#8, 1#8, station, halt, cause, s.eval.sequence, s.eval.epoch, asByte s.table.entries.length,
               asByte (s.report.findings.countP fun f => f.status.isActive), asByte s.report.findings.length, flags, 1#8,
               asByte s.loader.version])
            ∧ (s.running = true → station = 2#8) ∧ (s.halted = true → station = 3#8)
            ∧ (s.loader.halt = .none → halt = 0#8) ∧ (s.loader.halt = .memorySilent → halt = 2#8)
            ∧ (s.loader.halt = .checkFailed → halt = 3#8) ∧ (s.loader.halt = .versionUnknown → halt = 4#8)
            ∧ (s.loader.halt = .scanListEmpty → halt = 5#8)
            ∧ (s.loader.cause = .power → cause = 1#8) ∧ (s.loader.cause = .resetLine → cause = 2#8)
            ∧ (s.loader.cause = .coldRequest → cause = 3#8) ∧ (s.loader.cause = .warmRequest → cause = 4#8))
      ∧ (let lastOutcome := fun last : Option Verdict => match last with
           | none => 0#8
           | some (.evidence gain) => asByte (64 + gain / 16)
           | some .noEvidence => asByte 128
           | some .notAssessable => asByte 192
         (∀ terminal start flags, o = .reply terminal 2 start flags →
            let record := fun r : Finding =>
              let candidate := if r.key.kind = .crossFight then (s.entry r.key.subject).map Entry.pair
                else (s.locals.find? fun x => x.key == r.key).map LocalCandidate.scored
              let score := (candidate.map Scored.score).getD 0
              let packed := r.peak * 16384 + (if candidate.isSome then 8192 else 0) + score * 8
              [asByte (r.key.kind.number * 32
                  + (match r.status with | .confirmed => 0 | .recovering => 8 | .retired => 16 | .withdrawn => 24)
                  + (if r.corroborated then 4 else 0) + (if r.acknowledged then 2 else 0) + (if r.announced then 1 else 0)),
               asByte r.key.subject, (match r.holder with | .self => 0#8 | .partner p => asByte p), asByte r.occurrences,
               asByte (packed / 65536), asByte (packed / 256), asByte packed, r.sequence,
               lastOutcome (candidate.bind Scored.last)]
            tr.chars = sealed (headed 5 s.own terminal ([2#8, asByte start, asByte s.report.findings.length]
              ++ ((s.report.findings.drop start).take 4).flatMap record)))
         ∧ (∀ terminal start flags, o = .reply terminal 3 start flags →
            let record := fun e : Entry =>
              let packed := e.pair.score * 64
                + (match e.pair.state with | .clear => 0 | .suspect => 16 | .confirmed => 32 | .recovering => 48)
                + (match e.ownership with | .unheld => 0 | .claiming => 4 | .holder => 8 | .follower => 12)
              [asByte e.station,
               asByte ((if e.age ≤ 1 then 0 else if e.age ≤ 3 then 16 else 32)
                  + (if 1 ∈ e.matchSet then 1 else 0) + (if 2 ∈ e.matchSet then 2 else 0)
                  + (if 3 ∈ e.matchSet then 4 else 0) + (if 4 ∈ e.matchSet then 8 else 0)),
               asByte e.age, e.lastDigest.sequence, e.lastDigest.epoch, asByte (packed / 256), asByte packed,
               lastOutcome e.pair.last]
            tr.chars = sealed (headed 5 s.own terminal ([3#8, asByte start, asByte s.table.entries.length]
              ++ ((s.table.entries.drop start).take 4).flatMap record))))

/-- CONTENTION_LOSS, LINE_FAULT_ON_TRANSMIT and a REPEAT of ATTEMPT_OUTCOME for a telegram other than a claim (R143 to R146).
One attempt is counted; a loss doubles W up to 64, a REPEAT begins a repeat pause; at the sixteenth attempt lost the
telegram is discarded, W is 8 and TELEGRAM_DISCARDED is set. -/
def Obligations.AttemptFails : Prop :=
  (∀ (s : State) (tr : Transmission) (pre post : List Queued) (n : Nat), s.lineRuns = true →
      s.line.transmission = some tr → tr.inQueue = true → (∀ p, tr.telegram ≠ .claim p) →
      s.line.queue = pre ++ { telegram := tr.telegram, attempts := n } :: post →
      (s.line.queue.map Queued.telegram).Nodup →
      ∀ c follows, (c = Instr.contentionLoss ∧ follows = Tracking.telegram none)
          ∨ (c = Instr.lineFaultOnTransmit ∧ follows = Tracking.searching) →
        ∃ t, exec c s = .next t ∧ KeepsCore s t ∧ t.table = s.table ∧ t.report.findings = s.report.findings
          ∧ (n + 1 < 16 → t.report.flags = s.report.flags ∧
              t.line = { s.line with
                transmission := none, tracking := follows, window := min 64 (2 * s.line.window)
                queue := pre ++ { telegram := tr.telegram, attempts := n + 1 } :: post })
          ∧ (16 ≤ n + 1 → t.report.flags = { s.report.flags with telegramDiscarded := true } ∧
              t.line = { s.line with
                transmission := none, tracking := follows, window := 8, queue := pre ++ post
                pauses := s.line.pauses.filter fun o => o != tr.telegram }))
    ∧ (∀ (s : State) (tr : Transmission) (pre post : List Queued) (n : Nat) (stalePlace concurPlace : Bool),
      s.lineRuns = true → s.line.transmission = some tr → tr.inQueue = true → (∀ p, tr.telegram ≠ .claim p) →
      s.line.queue = pre ++ { telegram := tr.telegram, attempts := n } :: post →
      (s.line.queue.map Queued.telegram).Nodup →
      ∃ t, exec (.attemptOutcome true stalePlace concurPlace) s = .next t ∧ KeepsCore s t ∧ t.table = s.table
        ∧ t.report.findings = s.report.findings
        ∧ (n + 1 < 16 → t.report.flags = s.report.flags ∧
            t.line = { s.line with
              transmission := none, tracking := .afterWindow, pauses := s.line.pauses ++ [tr.telegram]
              queue := pre ++ { telegram := tr.telegram, attempts := n + 1 } :: post })
        ∧ (16 ≤ n + 1 → t.report.flags = { s.report.flags with telegramDiscarded := true } ∧
            t.line = { s.line with
              transmission := none, tracking := .afterWindow, window := 8, queue := pre ++ post
              pauses := s.line.pauses.filter fun o => o != tr.telegram }))

/-- ATTEMPT_OUTCOME without REPEAT for a DIGEST or a REPLY (R144, R145): sent, whatever the other places read; W returns to
8, and a digest that carried the restart flag clears the restart pending mark. An attempt whose telegram has lost its
place (R119, R154, R161): a digest replaced on the line does the same if sent, and its replacement counts nothing; a
withdrawn claim or FINDING is discarded, no record learning of it, and a FINDING that finishes sent is an occasion to
queue finding telegrams (R163). That such a telegram has left the queue at once, and what W becomes at the end of its attempt, is
deduced, log entry 8. -/
def Obligations.DigestOrReplySent : Prop :=
  (∀ (s : State) (tr : Transmission) (stalePlace concurPlace : Bool), s.lineRuns = true →
      s.line.transmission = some tr → tr.inQueue = true → tr.telegram = .digest ∨ tr.telegram.isReply = true →
      ∃ t, exec (.attemptOutcome false stalePlace concurPlace) s = .next t ∧ OnlyLine s t
        ∧ t.line = { s.line with
            transmission := none, tracking := .afterWindow, window := 8
            queue := s.line.queue.filter fun q => q.telegram != tr.telegram
            pauses := s.line.pauses.filter fun o => o != tr.telegram
            restartPending := s.line.restartPending && !(tr.restartFlag && tr.telegram == .digest) })
    ∧ (∀ (s : State) (tr : Transmission), s.lineRuns = true → s.line.transmission = some tr → tr.inQueue = false →
      (tr.telegram = .digest → ∀ stalePlace concurPlace,
        (∃ t, exec (.attemptOutcome false stalePlace concurPlace) s = .next t ∧ OnlyLine s t
          ∧ t.line = { s.line with
              transmission := none, tracking := .afterWindow, window := 8
              restartPending := s.line.restartPending && !tr.restartFlag })
        ∧ (∃ t, exec (.attemptOutcome true stalePlace concurPlace) s = .next t ∧ OnlyLine s t
          ∧ t.line = { s.line with transmission := none, tracking := .afterWindow })
        ∧ ∃ t, exec .contentionLoss s = .next t ∧ OnlyLine s t
          ∧ t.line = { s.line with
              transmission := none, tracking := .telegram none, window := min 64 (2 * s.line.window) })
      ∧ ((∃ p, tr.telegram = .claim p) → ∀ repeatPlace stalePlace concurPlace,
        ∃ t, exec (.attemptOutcome repeatPlace stalePlace concurPlace) s = .next t ∧ OnlyLine s t
          ∧ t.line = { s.line with transmission := none, tracking := .afterWindow, window := 8 })
      ∧ ((∃ k, tr.telegram = .finding k) → (s.report.findings.map Finding.key).Nodup → ∀ stalePlace concurPlace,
        (∃ t, exec (.attemptOutcome true stalePlace concurPlace) s = .next t ∧ OnlyLine s t
          ∧ t.line = { s.line with transmission := none, tracking := .afterWindow, window := 8 })
        ∧ ∃ t after, exec (.attemptOutcome false stalePlace concurPlace) s = .next t ∧ OnlyLine s t
          ∧ FindingsQueued s.report.findings s.line.queue after
          ∧ t.line = { s.line with transmission := none, tracking := .afterWindow, window := 8, queue := after })
      ∧ ((∃ p, tr.telegram = .claim p) ∨ (∃ k, tr.telegram = .finding k) →
        ∃ t, exec .contentionLoss s = .next t ∧ OnlyLine s t
          ∧ t.line = { s.line with transmission := none, tracking := .telegram none, window := 8 }))

/-- ATTEMPT_OUTCOME without REPEAT for a FINDING (R145, R163, R164): the record, still SELF, is announced when the status
carried is its own or both are active, and reported active when an active status was carried. A report that finds no
record of its key, or the partner as holder, is discarded: no record changes. That an announced record
withdrawn silently stays announced is the model's choice, log entry 27. -/
def Obligations.FindingSent : Prop :=
  (∀ (s : State) (tr : Transmission) (k : Key) (carried : RecordStatus) (r : Finding) (stalePlace concurPlace : Bool),
    s.lineRuns = true → s.line.transmission = some tr → tr.inQueue = true → tr.telegram = .finding k →
    tr.status = some carried → (s.report.findings.map Finding.key).Nodup → s.record k = some r → r.holder = .self →
    ∃ t, exec (.attemptOutcome false stalePlace concurPlace) s = .next t ∧ KeepsCore s t ∧ t.table = s.table
      ∧ t.report.flags = s.report.flags ∧ t.line.transmission = none ∧ t.line.tracking = .afterWindow
      ∧ t.line.window = 8 ∧ t.line.restartPending = s.line.restartPending
      ∧ (∀ q : Queued, q.telegram.isFinding = false → (q ∈ t.line.queue ↔ q ∈ s.line.queue))
      ∧ (let told : Finding := { r with
           announced := r.announced || carried == r.status || (carried.isActive && r.status.isActive)
           reportedActive := r.reportedActive || carried.isActive }
         t.report.findings = s.report.findings.filterMap (fun f =>
           if f.key = k then
             if told.status.isActive = false ∧ told.acknowledged = true ∧ told.announced = true then none else some told
           else some f)
         ∧ (told.announced = true → t.line.holds (.finding k) = false)
         ∧ (told.announced = false → t.line.findingCount < 4 → t.line.holds (.finding k) = true)))
    ∧ (∀ (s : State) (tr : Transmission) (k : Key) (stalePlace concurPlace : Bool),
      s.lineRuns = true → s.line.transmission = some tr → tr.inQueue = true → tr.telegram = .finding k →
      (s.report.findings.map Finding.key).Nodup →
      (∀ r, s.record k = some r → r.holder ≠ .self
        ∧ ¬(r.status.isActive = false ∧ r.acknowledged = true ∧ r.announced = true)) →
      ∃ t after, exec (.attemptOutcome false stalePlace concurPlace) s = .next t ∧ OnlyLine s t
        ∧ FindingsQueued s.report.findings (s.line.queue.filter fun q => q.telegram != .finding k) after
        ∧ t.line.holds (.finding k) = false
        ∧ t.line = { s.line with
            transmission := none, tracking := .afterWindow, window := 8, queue := after
            pauses := s.line.pauses.filter fun o => o != .finding k })

/-- R140: an undamaged telegram passes its check, and one damaged in one to three bits does not. -/
def Obligations.CheckDetectsThreeBits : Prop :=
  ∀ content : List Byte, content.length ≤ 44 →
    checkPasses (sealed content) = true
      ∧ ∀ read : List Byte, read.length = content.length + 2 → 1 ≤ bitsDamaged (sealed content) read →
          bitsDamaged (sealed content) read ≤ 3 → checkPasses read = false

/-- R148: the digest that a receiver reads is the digest that was gathered. -/
def Obligations.DigestReadsBack : Prop :=
  ∀ (x : Summary) (restart : Bool) (zones holders : List Nat), zones.length ≤ 4 → holders.length ≤ 8 →
    (∀ z ∈ zones, z < 256) → (∀ h ∈ holders, h < 256) → -4079 ≤ x.effort → x.effort ≤ 4079 →
    readDigest (digestBody x restart zones holders) =
        { summary := x, restart := restart, zoneCount := zones.length, holderCount := holders.length, zones := zones
          holders := holders }
      ∧ (digestBody x restart zones holders).length = 6 + zones.length + holders.length

/-- The model's reading of an event that the state leaves no room for, log entry 19, and of a telegram not heard, log
entry 17: it has no effect. A block that does not run takes none of its events; the receive queue is not taken from
during an evaluation (R156), nor does a period expire then (R24). -/
def Obligations.EventsWithoutRoom : Prop :=
  ∀ (s : State) (chars image : List Byte) (straps : BitVec 6) (v : Int) (a b d : Bool),
    (s.listening = false →
      ∀ c ∈ [Instr.receiveDigest chars, .receiveClaim chars, .receiveQuery chars, .acknowledge chars,
             .restartWarm chars straps, .restartCold chars straps, .receiveFinding chars, .receiveReply chars],
        exec c s = .next s)
    ∧ (s.running = false →
      ∀ c ∈ [Instr.scanStrobe a b, .conversionComplete v, .periodExpiry, .evaluationCompletion], exec c s = .next s)
    ∧ (s.startingUp = false → ∀ c ∈ [Instr.imageReadComplete image, .memorySilent], exec c s = .next s)
    ∧ (s.lineRuns = false →
      ∀ c ∈ [Instr.lineIdle, .leaveTelegram, .defer, .backoffEnd, .contentionLoss, .attemptOutcome a b d,
             .repeatPauseEnd, .startBitRead, .lineFaultOnTransmit, .digestTaken, .queryStatus, .queryFindings,
             .queryNeighbours], exec c s = .next s)
    ∧ (s.evaluating = true →
      ∀ c ∈ [Instr.periodExpiry, .digestTaken, .queryStatus, .queryFindings, .queryNeighbours], exec c s = .next s)
    ∧ (s.evaluating = false → exec .evaluationCompletion s = .next s)
    ∧ (s.line.transmission = none →
      ∀ c ∈ [Instr.contentionLoss, .lineFaultOnTransmit, .attemptOutcome a b d], exec c s = .next s)
    ∧ (s.line.backoff = none → ∀ c ∈ [Instr.defer, .backoffEnd], exec c s = .next s)

/-! ### Receiving (section 8.10) -/

/-- R155, first to sixth rows, for every RECEIVE command: a failed check earns REPEAT when the destination byte as read is
the own number; what is ignored or discarded draws no mark; nothing but the line followed changes. The values outside
R149 are spelled out; that an ACKNOWLEDGE's kind number outside 1 to 7 is one of them is deduced, log entry 25. -/
def Obligations.TelegramsWithoutEffect : Prop :=
  (∀ (chars : List Byte) (straps : BitVec 6) (s : State), s.listening = true → framed chars = true →
      checkPasses chars = false →
      ∀ c ∈ [Instr.receiveDigest chars, .receiveClaim chars, .receiveQuery chars, .acknowledge chars,
             .restartWarm chars straps, .restartCold chars straps, .receiveFinding chars, .receiveReply chars],
        ∃ t, exec c s = .next t ∧ OnlyLine s t
          ∧ t.line = { s.line with
              tracking := .afterWindow, idle := false, backoff := none
              mark := if byteAt chars 3 = s.own then some .repeatMark else none })
    ∧ (∀ (chars : List Byte) (straps : BitVec 6) (tel : Telegram) (s : State), s.listening = true → s.numbered →
      Carries chars tel →
      bodyLengthFits tel.kind tel.body = false ∨ valueFits tel.kind tel.body = false
        ∨ (tel.kind = 4 ∧ (byteAt tel.body 1 = 0 ∨ 3 < byteAt tel.body 1))
        ∨ (tel.kind = 6 ∧ (byteAt tel.body 1 = 0 ∨ 7 < byteAt tel.body 1))
        ∨ (tel.kind = 7 ∧ (byteAt tel.body 1 = 0 ∨ 2 < byteAt tel.body 1))
        ∨ (tel.destination ≠ s.own ∧ tel.destination ≠ 63)
        ∨ ((tel.kind = 4 ∨ tel.kind = 6 ∨ tel.kind = 7) ∧ (tel.source < 60 ∨ 62 < tel.source ∨ tel.destination = 63))
        ∨ (tel.kind = 2 ∧ tel.destination = 63) ∨ tel.kind = 3 ∨ tel.kind = 5 →
      ∀ c ∈ [Instr.receiveDigest chars, .receiveClaim chars, .receiveQuery chars, .acknowledge chars,
             .restartWarm chars straps, .restartCold chars straps, .receiveFinding chars, .receiveReply chars],
        ∃ t, exec c s = .next t ∧ OnlyLine s t
          ∧ t.line = { s.line with tracking := .afterWindow, idle := false, backoff := none, mark := none })

/-- R27, R120, R165, R180: a CLAIM, ACKNOWLEDGE or RESTART to the own number during an evaluation is answered REPEAT and
does nothing else. An ACKNOWLEDGE is one whose kind number is 1 to 7; any other is ignored (`TelegramsWithoutEffect`). -/
def Obligations.AddressedDuringEvaluation : Prop :=
  ∀ (chars : List Byte) (straps : BitVec 6) (tel : Telegram) (s : State), s.listening = true → s.numbered →
    s.evaluating = true → Carries chars tel → tel.destination = s.own →
    ∀ c, (c = Instr.receiveClaim chars ∧ tel.kind = 2 ∧ tel.body.length = 2)
        ∨ (c = Instr.acknowledge chars ∧ tel.kind = 6 ∧ tel.body.length = 2 ∧ 1 ≤ byteAt tel.body 1
            ∧ byteAt tel.body 1 ≤ 7 ∧ 60 ≤ tel.source ∧ tel.source ≤ 62)
        ∨ (c = Instr.restartWarm chars straps ∧ tel.kind = 7 ∧ tel.body = [1#8] ∧ 60 ≤ tel.source ∧ tel.source ≤ 62)
        ∨ (c = Instr.restartCold chars straps ∧ tel.kind = 7 ∧ tel.body = [2#8] ∧ 60 ≤ tel.source ∧ tel.source ≤ 62) →
      ∃ t, exec c s = .next t ∧ OnlyLine s t
        ∧ t.line = { s.line with
            tracking := .afterWindow, idle := false, backoff := none, mark := some .repeatMark }

/-- RECEIVE_DIGEST and RECEIVE_QUERY (R155, R156): the telegram joins the receive queue at its tail and waits for the
completion of the evaluation in flight, or is lost at a queue of 4; a query is refused with REPEAT while a reply or a
query is pending. Outside an evaluation, where nothing waits, a telegram that joins is taken in the same step, with the
effect of DIGEST_TAKEN or of the QUERY command of its what, log entry 6, and the queue is empty again. -/
def Obligations.ReceiveQueueJoined : Prop :=
  (∀ (chars : List Byte) (tel : Telegram) (s : State), s.listening = true → s.numbered → Carries chars tel →
      tel.kind = 1 → tel.destination = s.own ∨ tel.destination = 63 → 6 ≤ tel.body.length →
      tel.body.length = 6 + (readDigest tel.body).zoneCount + (readDigest tel.body).holderCount →
      let heard : Line := { s.line with tracking := .afterWindow, idle := false, backoff := none, mark := none }
      let arrival := Received.digest tel.source (readDigest tel.body)
      ∃ t, exec (.receiveDigest chars) s = .next t ∧ KeepsCore s t
        ∧ (s.evaluating = true → s.line.received.length < 4 → OnlyLine s t ∧
            t.line = { heard with received := s.line.received ++ [arrival] })
        ∧ (s.evaluating = false → s.line.received.length < 4 → t.line.received = [] ∧ t.line.mark = none)
        ∧ (s.evaluating = false → s.line.received = [] →
            exec .digestTaken { s with line := { heard with received := [arrival] } } = .next t)
        ∧ (4 ≤ s.line.received.length → t.table = s.table ∧ t.report.findings = s.report.findings ∧
            t.report.flags = { s.report.flags with receiveLoss := true } ∧
            t.line = { heard with mark := if tel.destination = s.own then some .repeatMark else none }))
    ∧ (∀ (chars : List Byte) (source : Nat) (what start : Byte) (s : State), s.listening = true → s.numbered →
      60 ≤ source → source ≤ 62 → 1 ≤ what.toNat → what.toNat ≤ 3 →
      Carries chars { kind := 4, source := source, destination := s.own, body := [what, start] } →
      let heard : Line := { s.line with tracking := .afterWindow, idle := false, backoff := none, mark := none }
      let arrival := Received.query source what.toNat start.toNat
      let pendingReply := (∃ q ∈ s.line.queue, q.telegram.isReply = true) ∨ ∃ r ∈ s.line.received, r.isQuery = true
      ∃ t, exec (.receiveQuery chars) s = .next t ∧ KeepsCore s t
        ∧ (pendingReply → OnlyLine s t ∧ t.line = { heard with mark := some .repeatMark })
        ∧ (¬pendingReply → 4 ≤ s.line.received.length → t.table = s.table ∧ t.report.findings = s.report.findings ∧
            t.report.flags = { s.report.flags with receiveLoss := true } ∧
            t.line = { heard with mark := some .repeatMark })
        ∧ (¬pendingReply → s.evaluating = true → s.line.received.length < 4 → OnlyLine s t ∧
            t.line = { heard with received := s.line.received ++ [arrival] })
        ∧ (¬pendingReply → s.evaluating = false → s.line.received.length < 4 →
            t.line.received = [] ∧ t.line.mark = none)
        ∧ (¬pendingReply → s.evaluating = false → s.line.received = [] →
            ∀ c, (c = Instr.queryStatus ∧ what = 1#8) ∨ (c = Instr.queryFindings ∧ what = 2#8)
                ∨ (c = Instr.queryNeighbours ∧ what = 3#8) →
              exec c { s with line := { heard with received := [arrival] } } = .next t))

/-! ### Answering and settling claims (chapter 7) -/

/-- R121: a claim that carries another epoch than the current one is answered STALE, whatever the candidate, and changes
nothing. -/
def Obligations.ClaimAnsweredStale : Prop :=
  ∀ (chars : List Byte) (source : Nat) (claimant seen : Byte) (e : Entry) (s : State), s.listening = true →
    s.running = true → s.numbered → s.evaluating = false →
    Carries chars { kind := 2, source := source, destination := s.own, body := [claimant, seen] } →
    s.entry source = some e → seen ≠ s.eval.epoch →
    ∃ t, exec (.receiveClaim chars) s = .next t ∧ OnlyLine s t
      ∧ t.line = { s.line with tracking := .afterWindow, idle := false, backoff := none, mark := some .stale }

/-- RECEIVE_CLAIM (R120, R122, R123, R161), the epochs agreeing or no entry standing: the claims that get no mark, and those
answered CONCUR, which make the addressee a FOLLOWER, its own claim withdrawn, its active record the partner's and
announced, and a finding telegram that waits untold withdrawn. For
SUSPECT with HOLDER or CLAIMING, which R122's table leaves out, the answer is the model's choice, log entry 9. -/
def Obligations.ClaimAnswered : Prop :=
  (∀ (chars : List Byte) (source : Nat) (claimant seen : Byte) (s : State), s.listening = true → s.numbered →
      s.evaluating = false →
      Carries chars { kind := 2, source := source, destination := s.own, body := [claimant, seen] } →
      s.running = false ∨ s.entry source = none
        ∨ (∃ e, s.entry source = some e ∧ seen = s.eval.epoch ∧
            (e.pair.state = .clear ∨ (e.ownership = .holder ∧ s.own < source))) →
      ∃ t, exec (.receiveClaim chars) s = .next t ∧ OnlyLine s t
        ∧ t.line = { s.line with tracking := .afterWindow, idle := false, backoff := none, mark := none })
    ∧ (∀ (chars : List Byte) (source : Nat) (claimant seen : Byte) (e : Entry) (s : State), s.listening = true →
      s.running = true → s.numbered → s.evaluating = false → s.StationsDistinct →
      Carries chars { kind := 2, source := source, destination := s.own, body := [claimant, seen] } →
      s.entry source = some e → seen = s.eval.epoch → e.pair.state ≠ .clear →
      (e.ownership = .holder → source < s.own) →
      ∃ t, exec (.receiveClaim chars) s = .next t ∧ OnlyPair source s t ∧ t.line.mark = some .concur
        ∧ t.entry source = some { e with
            ownership := .follower, claimAttempts := if e.ownership = .claiming then 0 else e.claimAttempts }
        ∧ (e.ownership = .claiming → t.line.holds (.claim source) = false)
        ∧ t.report.flags = s.report.flags
        ∧ (∀ f ∈ t.report.findings, f.key = pairKey source → f.status.isActive = true →
            f.holder = .partner source ∧ f.announced = true)
        ∧ ∀ f ∈ s.report.findings, f.key = pairKey source → f.status.isActive = true →
            { f with holder := .partner source, announced := true } ∈ t.report.findings
            ∧ (f.holder = .self → f.announced = false → t.line.holds (.finding (pairKey source)) = false))

/-- ATTEMPT_OUTCOME of a claim, outside an evaluation (R72, R100, R124, R126 to R128, R161, R162): CONCUR or no mark settles
it as HOLDER, corroborated or not; STALE sets the candidate to SUSPECT at 256 and withdraws its record. The claim leaves
the queue and W returns to 8. That a settlement without a mark leaves a true corroborated field true is deduced, log
entry 18. -/
def Obligations.ClaimSettled : Prop :=
  (∀ (s : State) (tr : Transmission) (p : Nat) (e : Entry) (concurPlace : Bool), s.lineRuns = true →
      s.evaluating = false → s.line.transmission = some tr → tr.inQueue = true → tr.telegram = .claim p →
      s.StationsDistinct → s.entry p = some e → e.ownership = .claiming →
      ∃ t, exec (.attemptOutcome false false concurPlace) s = .next t ∧ OnlyPair p s t
        ∧ t.entry p = some { e with ownership := .holder, claimAttempts := 0 }
        ∧ t.line.holds (.claim p) = false ∧ t.line.window = 8 ∧ t.line.transmission = none
        ∧ t.report.flags = s.report.flags
        ∧ (∀ f ∈ s.report.findings, f.key = pairKey p → f.status.isActive = true →
            { f with holder := .self, announced := false, corroborated := f.corroborated || concurPlace }
              ∈ t.report.findings))
    ∧ (∀ (s : State) (tr : Transmission) (p : Nat) (e : Entry) (concurPlace : Bool), s.lineRuns = true →
      s.evaluating = false → s.line.transmission = some tr → tr.inQueue = true → tr.telegram = .claim p →
      s.StationsDistinct → s.entry p = some e → e.ownership = .claiming →
      ∃ t, exec (.attemptOutcome false true concurPlace) s = .next t ∧ OnlyPair p s t
        ∧ t.entry p = some { e with
            pair := { e.pair with score := 256, state := .suspect }, ownership := .unheld, claimAttempts := 0
            reservedOwn := s.eval.epoch, reservedPeer := e.lastDigest.epoch }
        ∧ t.line.holds (.claim p) = false ∧ t.line.window = 8 ∧ t.line.transmission = none
        ∧ t.report.flags = s.report.flags
        ∧ RecordWithdrawn (pairKey p) s t)

/-- R125, R127, R143, R146: outside an evaluation, a REPEAT or a contention loss counts an attempt of the claim; at the
sixteenth it settles as HOLDER, its active record SELF and due to be announced (R161), and TELEGRAM_DISCARDED is set.
That a corroborated record stays so then is deduced, log entry 18. -/
def Obligations.ClaimRetriedOrSpent : Prop :=
  ∀ (s : State) (tr : Transmission) (p : Nat) (e : Entry), s.lineRuns = true → s.evaluating = false →
    s.line.transmission = some tr → tr.inQueue = true → tr.telegram = .claim p → s.StationsDistinct →
    s.line.holds (.claim p) = true → s.entry p = some e → e.ownership = .claiming →
    ∀ c, c = Instr.contentionLoss ∨ c = Instr.lineFaultOnTransmit
        ∨ (∃ stalePlace concurPlace, c = Instr.attemptOutcome true stalePlace concurPlace) →
      ∃ t, exec c s = .next t ∧ OnlyPair p s t
        ∧ (e.claimAttempts + 1 < 16 → t.report.findings = s.report.findings ∧
            t.entry p = some { e with claimAttempts := e.claimAttempts + 1 } ∧ t.line.holds (.claim p) = true
              ∧ t.report.flags = s.report.flags
              ∧ (c = .contentionLoss ∨ c = .lineFaultOnTransmit → t.line.window = min 64 (2 * s.line.window))
              ∧ ((∃ a b, c = .attemptOutcome true a b) →
                  t.line.window = s.line.window ∧ t.line.pauses = s.line.pauses ++ [.claim p]))
        ∧ (16 ≤ e.claimAttempts + 1 →
            t.entry p = some { e with ownership := .holder, claimAttempts := 0 } ∧ t.line.holds (.claim p) = false
              ∧ t.line.window = 8 ∧ t.report.flags = { s.report.flags with telegramDiscarded := true }
              ∧ ∀ f ∈ s.report.findings, f.key = pairKey p → f.status.isActive = true →
                  { f with holder := .self, announced := false } ∈ t.report.findings)

/-- R28, R124, R145: during an evaluation the end of an own claim is held, behind those that ended before it, and nothing
else of it takes effect but the beginning of a repeat pause. That a contention loss (R143) leaves W as it is until the
completion is deduced, log entry 11. -/
def Obligations.ClaimOutcomeHeld : Prop :=
  ∀ (s : State) (tr : Transmission) (p : Nat) (a b d : Bool), s.lineRuns = true → s.evaluating = true →
    s.line.transmission = some tr → tr.inQueue = true → tr.telegram = .claim p →
    (∃ t, exec (.attemptOutcome a b d) s = .next t ∧ OnlyLine s t ∧
      t.line = { s.line with
        transmission := none, tracking := .afterWindow
        pauses := if a then s.line.pauses ++ [.claim p] else s.line.pauses
        held := s.line.held ++ [{ peer := p, outcome :=
          if a then .repeatMark else if b then .stale else if d then .concur else .noMark }] })
    ∧ ∃ t, exec .contentionLoss s = .next t ∧ OnlyLine s t ∧
      t.line = { s.line with
        transmission := none, tracking := .telegram none
        held := s.line.held ++ [{ peer := p, outcome := .contentionLoss }] }

/-! ### Findings and service requests (chapter 9) -/

/-- QUERY_STATUS, QUERY_FINDINGS, QUERY_NEIGHBOURS (R151, R169, R170): a STATUS reply copies the six flags and clears them,
RUNNING or HALTED, its start 0 whatever the query's, deduced, log entry 13; the other two are answered by a RUNNING
station and discarded by a HALTED one. -/
def Obligations.QueriesTaken : Prop :=
  (∀ (s : State) (source start : Nat) (rest : List Received), s.lineRuns = true → s.evaluating = false →
      s.line.received = .query source 1 start :: rest →
      ∃ t, exec .queryStatus s = .next t ∧ KeepsCore s t ∧ t.table = s.table
        ∧ t.report.flags = ⟨false, false, false, false, false, false⟩ ∧ t.report.findings = s.report.findings
        ∧ t.line = Line.beginBackoff { s.line with
            received := rest
            queue := s.line.queue ++ [{ telegram := .reply source 1 0 s.report.flags.toByte, attempts := 0 }] }
        ∧ s.report.flags.toByte.toNat =
            (if s.report.flags.scanOverrun then 1 else 0) + (if s.report.flags.sampleLoss then 2 else 0)
              + (if s.report.flags.receiveLoss then 4 else 0) + (if s.report.flags.duplicateSeen then 8 else 0)
              + (if s.report.flags.telegramDiscarded then 16 else 0) + (if s.report.flags.neighbourRefused then 32 else 0))
    ∧ (∀ (s : State) (source start what : Nat) (rest : List Received) (c : Instr), s.lineRuns = true →
      s.evaluating = false → (c = .queryFindings ∧ what = 2) ∨ (c = .queryNeighbours ∧ what = 3) →
      s.line.received = .query source what start :: rest →
      ∃ t, exec c s = .next t ∧ OnlyLine s t
        ∧ (s.running = true → t.line = Line.beginBackoff { s.line with
            received := rest
            queue := s.line.queue ++ [{ telegram := .reply source what start 0#8, attempts := 0 }] })
        ∧ (s.halted = true → t.line = Line.beginBackoff { s.line with received := rest }))

/-- ACKNOWLEDGE (R165, R166), outside an evaluation: CONCUR and the record acknowledged, removed if that leaves it done;
no mark and no effect where no such record stands or the station is HALTED. -/
def Obligations.Acknowledgement : Prop :=
  ∀ (chars : List Byte) (source : Nat) (kind subject : Byte) (k : Kind) (s : State), s.listening = true →
    s.numbered → s.evaluating = false → 60 ≤ source → source ≤ 62 →
    Carries chars { kind := 6, source := source, destination := s.own, body := [kind, subject] } →
    kind.toNat = k.number → (s.report.findings.map Finding.key).Nodup →
    ∃ t, exec (.acknowledge chars) s = .next t ∧ KeepsCore s t ∧ t.table = s.table ∧ t.report.flags = s.report.flags
      ∧ (let heard : Line := { s.line with tracking := .afterWindow, idle := false, backoff := none, mark := none }
         let key : Key := ⟨k, subject.toNat⟩
         (s.running = true → (s.record key).isSome = true →
            t.line = { heard with mark := some .concur } ∧
            t.report.findings = s.report.findings.filterMap (fun f =>
              if f.key = key then
                if f.status.isActive = false ∧ f.announced = true then none else some { f with acknowledged := true }
              else some f))
         ∧ (s.running = false ∨ s.record key = none →
            t.line = heard ∧ t.report.findings = s.report.findings))

/-- R167, R168: the levels of the three output lines in RUNNING and HALTED, and their release otherwise, after any
command. -/
def Obligations.OutputLines : Prop :=
  ∀ (c : Instr) (s t : State), s.LinesAgree → exec c s = .next t →
    let drives := fun (f : Finding) => f.status.isActive = true ∧ f.holder = .self ∧ f.acknowledged = false
      ∧ ¬(f.key.kind = .crossFight ∧ ∃ e, t.entry f.key.subject = some e ∧ e.ownership = .claiming)
    let at_work := t.running = true ∨ t.halted = true
    (t.report.alertA = true ↔ at_work ∧ ∃ f ∈ t.report.findings, drives f
        ∧ t.cfg.routing.getLsbD (2 * f.key.kind.number - 2) = true)
      ∧ (t.report.alertB = true ↔ at_work ∧ ∃ f ∈ t.report.findings, drives f
        ∧ t.cfg.routing.getLsbD (2 * f.key.kind.number - 1) = true)
      ∧ (t.report.fault = true ↔ at_work ∧
          (t.halted = true ∨ 0 < t.table.duplicateTimer ∨ t.table.saturated = true))

/-! ### Laws that every step keeps -/

/-- R68: every candidate's state and score agree, after every step from a state in which they do. -/
def Obligations.StepKeepsBands : Prop :=
 ∀ s t : State, s.CandidatesBanded → step s = .next t → t.CandidatesBanded

/-- R11, R81, R83, R141, R156: the bounds of FIFO, table, duplicate timer, W and receive queue; R11, R28, R156: outside an
evaluation the FIFO and the receive queue are empty and no claim outcome is held. -/
def Obligations.StepKeepsCapacity : Prop :=
  (∀ s t : State, s.WithinCapacity → step s = .next t → t.WithinCapacity)
    ∧ (∀ s t : State, s.NothingWaits → step s = .next t → t.NothingWaits)

/-- R115: CLAIMING or HOLDER only while CONFIRMED or RECOVERING; with R81, one entry for a station. -/
def Obligations.StepKeepsOwnership : Prop :=
 ∀ s t : State, s.OwnershipLawful → step s = .next t → t.OwnershipLawful

/-- R158, R160, R166, R69: keys are distinct, a candidate is CONFIRMED or RECOVERING exactly when a record of its key says
so, the list holds at most 24 records, and none of them is inactive, acknowledged and announced. -/
def Obligations.StepKeepsRecords : Prop :=
 ∀ s t : State, s.ListBounded → step s = .next t → t.ListBounded

/-- R118, R153: the transmit queue stays within its kinds' limits, a claim standing in it exactly for each CLAIMING
entry. -/
def Obligations.StepKeepsQueue : Prop :=
  ∀ s t : State, s.QueueLawful → step s = .next t → t.QueueLawful ∧ t.line.queue.length ≤ 14

end
end

