-- ==== Sys2Proof/Laws/State.lean ====
section
/-! SUPPORT. One lemma per field per update of State, each true by rfl, so that no later proof unfolds a record update;
and the views that an update of another block leaves alone. -/

namespace Sys2Proof.Machine

/-! ### modAcq -/

@[simp] theorem State.modAcq_acq (f : Acquisition → Acquisition) (s : State) : (s.modAcq f).acq = f s.acq := rfl
@[simp] theorem State.modAcq_timers (f : Acquisition → Acquisition) (s : State) : (s.modAcq f).timers = s.timers := rfl
@[simp] theorem State.modAcq_eval (f : Acquisition → Acquisition) (s : State) : (s.modAcq f).eval = s.eval := rfl
@[simp] theorem State.modAcq_locals (f : Acquisition → Acquisition) (s : State) : (s.modAcq f).locals = s.locals := rfl
@[simp] theorem State.modAcq_table (f : Acquisition → Acquisition) (s : State) : (s.modAcq f).table = s.table := rfl
@[simp] theorem State.modAcq_line (f : Acquisition → Acquisition) (s : State) : (s.modAcq f).line = s.line := rfl
@[simp] theorem State.modAcq_report (f : Acquisition → Acquisition) (s : State) : (s.modAcq f).report = s.report := rfl
@[simp] theorem State.modAcq_loader (f : Acquisition → Acquisition) (s : State) : (s.modAcq f).loader = s.loader := rfl
@[simp] theorem State.modAcq_pending (f : Acquisition → Acquisition) (s : State) : (s.modAcq f).pending = s.pending := rfl
@[simp] theorem State.modAcq_stopped (f : Acquisition → Acquisition) (s : State) : (s.modAcq f).stopped = s.stopped := rfl
@[simp] theorem State.modAcq_running (f : Acquisition → Acquisition) (s : State) : (s.modAcq f).running = s.running := rfl
@[simp] theorem State.modAcq_halted (f : Acquisition → Acquisition) (s : State) : (s.modAcq f).halted = s.halted := rfl
@[simp] theorem State.modAcq_startingUp (f : Acquisition → Acquisition) (s : State) : (s.modAcq f).startingUp = s.startingUp := rfl
@[simp] theorem State.modAcq_lineRuns (f : Acquisition → Acquisition) (s : State) : (s.modAcq f).lineRuns = s.lineRuns := rfl
@[simp] theorem State.modAcq_own (f : Acquisition → Acquisition) (s : State) : (s.modAcq f).own = s.own := rfl
@[simp] theorem State.modAcq_cfg (f : Acquisition → Acquisition) (s : State) : (s.modAcq f).cfg = s.cfg := rfl
@[simp] theorem State.modAcq_linesFollow (f : Acquisition → Acquisition) (s : State) : (s.modAcq f).linesFollow = s.linesFollow := rfl
@[simp] theorem State.modAcq_evaluating (f : Acquisition → Acquisition) (s : State) : (s.modAcq f).evaluating = s.evaluating := rfl
@[simp] theorem State.modAcq_entry (f : Acquisition → Acquisition) (s : State) (p : Nat) : (s.modAcq f).entry p = s.entry p := rfl
@[simp] theorem State.modAcq_record (f : Acquisition → Acquisition) (s : State) (k : Key) : (s.modAcq f).record k = s.record k := rfl

/-! ### modTimers -/

@[simp] theorem State.modTimers_acq (f : Option Timers → Option Timers) (s : State) : (s.modTimers f).acq = s.acq := rfl
@[simp] theorem State.modTimers_timers (f : Option Timers → Option Timers) (s : State) : (s.modTimers f).timers = f s.timers := rfl
@[simp] theorem State.modTimers_eval (f : Option Timers → Option Timers) (s : State) : (s.modTimers f).eval = s.eval := rfl
@[simp] theorem State.modTimers_locals (f : Option Timers → Option Timers) (s : State) : (s.modTimers f).locals = s.locals := rfl
@[simp] theorem State.modTimers_table (f : Option Timers → Option Timers) (s : State) : (s.modTimers f).table = s.table := rfl
@[simp] theorem State.modTimers_line (f : Option Timers → Option Timers) (s : State) : (s.modTimers f).line = s.line := rfl
@[simp] theorem State.modTimers_report (f : Option Timers → Option Timers) (s : State) : (s.modTimers f).report = s.report := rfl
@[simp] theorem State.modTimers_loader (f : Option Timers → Option Timers) (s : State) : (s.modTimers f).loader = s.loader := rfl
@[simp] theorem State.modTimers_pending (f : Option Timers → Option Timers) (s : State) : (s.modTimers f).pending = s.pending := rfl
@[simp] theorem State.modTimers_stopped (f : Option Timers → Option Timers) (s : State) : (s.modTimers f).stopped = s.stopped := rfl
@[simp] theorem State.modTimers_running (f : Option Timers → Option Timers) (s : State) : (s.modTimers f).running = s.running := rfl
@[simp] theorem State.modTimers_halted (f : Option Timers → Option Timers) (s : State) : (s.modTimers f).halted = s.halted := rfl
@[simp] theorem State.modTimers_startingUp (f : Option Timers → Option Timers) (s : State) : (s.modTimers f).startingUp = s.startingUp := rfl
@[simp] theorem State.modTimers_lineRuns (f : Option Timers → Option Timers) (s : State) : (s.modTimers f).lineRuns = s.lineRuns := rfl
@[simp] theorem State.modTimers_own (f : Option Timers → Option Timers) (s : State) : (s.modTimers f).own = s.own := rfl
@[simp] theorem State.modTimers_cfg (f : Option Timers → Option Timers) (s : State) : (s.modTimers f).cfg = s.cfg := rfl
@[simp] theorem State.modTimers_linesFollow (f : Option Timers → Option Timers) (s : State) : (s.modTimers f).linesFollow = s.linesFollow := rfl
@[simp] theorem State.modTimers_evaluating (f : Option Timers → Option Timers) (s : State) : (s.modTimers f).evaluating = s.evaluating := rfl
@[simp] theorem State.modTimers_entry (f : Option Timers → Option Timers) (s : State) (p : Nat) : (s.modTimers f).entry p = s.entry p := rfl
@[simp] theorem State.modTimers_record (f : Option Timers → Option Timers) (s : State) (k : Key) : (s.modTimers f).record k = s.record k := rfl

/-! ### modEval -/

@[simp] theorem State.modEval_acq (f : Evaluator → Evaluator) (s : State) : (s.modEval f).acq = s.acq := rfl
@[simp] theorem State.modEval_timers (f : Evaluator → Evaluator) (s : State) : (s.modEval f).timers = s.timers := rfl
@[simp] theorem State.modEval_eval (f : Evaluator → Evaluator) (s : State) : (s.modEval f).eval = f s.eval := rfl
@[simp] theorem State.modEval_locals (f : Evaluator → Evaluator) (s : State) : (s.modEval f).locals = s.locals := rfl
@[simp] theorem State.modEval_table (f : Evaluator → Evaluator) (s : State) : (s.modEval f).table = s.table := rfl
@[simp] theorem State.modEval_line (f : Evaluator → Evaluator) (s : State) : (s.modEval f).line = s.line := rfl
@[simp] theorem State.modEval_report (f : Evaluator → Evaluator) (s : State) : (s.modEval f).report = s.report := rfl
@[simp] theorem State.modEval_loader (f : Evaluator → Evaluator) (s : State) : (s.modEval f).loader = s.loader := rfl
@[simp] theorem State.modEval_pending (f : Evaluator → Evaluator) (s : State) : (s.modEval f).pending = s.pending := rfl
@[simp] theorem State.modEval_stopped (f : Evaluator → Evaluator) (s : State) : (s.modEval f).stopped = s.stopped := rfl
@[simp] theorem State.modEval_running (f : Evaluator → Evaluator) (s : State) : (s.modEval f).running = s.running := rfl
@[simp] theorem State.modEval_halted (f : Evaluator → Evaluator) (s : State) : (s.modEval f).halted = s.halted := rfl
@[simp] theorem State.modEval_startingUp (f : Evaluator → Evaluator) (s : State) : (s.modEval f).startingUp = s.startingUp := rfl
@[simp] theorem State.modEval_lineRuns (f : Evaluator → Evaluator) (s : State) : (s.modEval f).lineRuns = s.lineRuns := rfl
@[simp] theorem State.modEval_own (f : Evaluator → Evaluator) (s : State) : (s.modEval f).own = s.own := rfl
@[simp] theorem State.modEval_cfg (f : Evaluator → Evaluator) (s : State) : (s.modEval f).cfg = s.cfg := rfl
@[simp] theorem State.modEval_linesFollow (f : Evaluator → Evaluator) (s : State) : (s.modEval f).linesFollow = s.linesFollow := rfl
@[simp] theorem State.modEval_entry (f : Evaluator → Evaluator) (s : State) (p : Nat) : (s.modEval f).entry p = s.entry p := rfl
@[simp] theorem State.modEval_record (f : Evaluator → Evaluator) (s : State) (k : Key) : (s.modEval f).record k = s.record k := rfl

/-! ### modLocals -/

@[simp] theorem State.modLocals_acq (f : List LocalCandidate → List LocalCandidate) (s : State) : (s.modLocals f).acq = s.acq := rfl
@[simp] theorem State.modLocals_timers (f : List LocalCandidate → List LocalCandidate) (s : State) : (s.modLocals f).timers = s.timers := rfl
@[simp] theorem State.modLocals_eval (f : List LocalCandidate → List LocalCandidate) (s : State) : (s.modLocals f).eval = s.eval := rfl
@[simp] theorem State.modLocals_locals (f : List LocalCandidate → List LocalCandidate) (s : State) : (s.modLocals f).locals = f s.locals := rfl
@[simp] theorem State.modLocals_table (f : List LocalCandidate → List LocalCandidate) (s : State) : (s.modLocals f).table = s.table := rfl
@[simp] theorem State.modLocals_line (f : List LocalCandidate → List LocalCandidate) (s : State) : (s.modLocals f).line = s.line := rfl
@[simp] theorem State.modLocals_report (f : List LocalCandidate → List LocalCandidate) (s : State) : (s.modLocals f).report = s.report := rfl
@[simp] theorem State.modLocals_loader (f : List LocalCandidate → List LocalCandidate) (s : State) : (s.modLocals f).loader = s.loader := rfl
@[simp] theorem State.modLocals_pending (f : List LocalCandidate → List LocalCandidate) (s : State) : (s.modLocals f).pending = s.pending := rfl
@[simp] theorem State.modLocals_stopped (f : List LocalCandidate → List LocalCandidate) (s : State) : (s.modLocals f).stopped = s.stopped := rfl
@[simp] theorem State.modLocals_running (f : List LocalCandidate → List LocalCandidate) (s : State) : (s.modLocals f).running = s.running := rfl
@[simp] theorem State.modLocals_halted (f : List LocalCandidate → List LocalCandidate) (s : State) : (s.modLocals f).halted = s.halted := rfl
@[simp] theorem State.modLocals_startingUp (f : List LocalCandidate → List LocalCandidate) (s : State) : (s.modLocals f).startingUp = s.startingUp := rfl
@[simp] theorem State.modLocals_lineRuns (f : List LocalCandidate → List LocalCandidate) (s : State) : (s.modLocals f).lineRuns = s.lineRuns := rfl
@[simp] theorem State.modLocals_own (f : List LocalCandidate → List LocalCandidate) (s : State) : (s.modLocals f).own = s.own := rfl
@[simp] theorem State.modLocals_cfg (f : List LocalCandidate → List LocalCandidate) (s : State) : (s.modLocals f).cfg = s.cfg := rfl
@[simp] theorem State.modLocals_linesFollow (f : List LocalCandidate → List LocalCandidate) (s : State) : (s.modLocals f).linesFollow = s.linesFollow := rfl
@[simp] theorem State.modLocals_evaluating (f : List LocalCandidate → List LocalCandidate) (s : State) : (s.modLocals f).evaluating = s.evaluating := rfl
@[simp] theorem State.modLocals_entry (f : List LocalCandidate → List LocalCandidate) (s : State) (p : Nat) : (s.modLocals f).entry p = s.entry p := rfl
@[simp] theorem State.modLocals_record (f : List LocalCandidate → List LocalCandidate) (s : State) (k : Key) : (s.modLocals f).record k = s.record k := rfl

/-! ### modTable -/

@[simp] theorem State.modTable_acq (f : NeighbourTable → NeighbourTable) (s : State) : (s.modTable f).acq = s.acq := rfl
@[simp] theorem State.modTable_timers (f : NeighbourTable → NeighbourTable) (s : State) : (s.modTable f).timers = s.timers := rfl
@[simp] theorem State.modTable_eval (f : NeighbourTable → NeighbourTable) (s : State) : (s.modTable f).eval = s.eval := rfl
@[simp] theorem State.modTable_locals (f : NeighbourTable → NeighbourTable) (s : State) : (s.modTable f).locals = s.locals := rfl
@[simp] theorem State.modTable_table (f : NeighbourTable → NeighbourTable) (s : State) : (s.modTable f).table = f s.table := rfl
@[simp] theorem State.modTable_line (f : NeighbourTable → NeighbourTable) (s : State) : (s.modTable f).line = s.line := rfl
@[simp] theorem State.modTable_report (f : NeighbourTable → NeighbourTable) (s : State) : (s.modTable f).report = s.report := rfl
@[simp] theorem State.modTable_loader (f : NeighbourTable → NeighbourTable) (s : State) : (s.modTable f).loader = s.loader := rfl
@[simp] theorem State.modTable_pending (f : NeighbourTable → NeighbourTable) (s : State) : (s.modTable f).pending = s.pending := rfl
@[simp] theorem State.modTable_stopped (f : NeighbourTable → NeighbourTable) (s : State) : (s.modTable f).stopped = s.stopped := rfl
@[simp] theorem State.modTable_running (f : NeighbourTable → NeighbourTable) (s : State) : (s.modTable f).running = s.running := rfl
@[simp] theorem State.modTable_halted (f : NeighbourTable → NeighbourTable) (s : State) : (s.modTable f).halted = s.halted := rfl
@[simp] theorem State.modTable_startingUp (f : NeighbourTable → NeighbourTable) (s : State) : (s.modTable f).startingUp = s.startingUp := rfl
@[simp] theorem State.modTable_lineRuns (f : NeighbourTable → NeighbourTable) (s : State) : (s.modTable f).lineRuns = s.lineRuns := rfl
@[simp] theorem State.modTable_own (f : NeighbourTable → NeighbourTable) (s : State) : (s.modTable f).own = s.own := rfl
@[simp] theorem State.modTable_cfg (f : NeighbourTable → NeighbourTable) (s : State) : (s.modTable f).cfg = s.cfg := rfl
@[simp] theorem State.modTable_linesFollow (f : NeighbourTable → NeighbourTable) (s : State) : (s.modTable f).linesFollow = s.linesFollow := rfl
@[simp] theorem State.modTable_evaluating (f : NeighbourTable → NeighbourTable) (s : State) : (s.modTable f).evaluating = s.evaluating := rfl
@[simp] theorem State.modTable_record (f : NeighbourTable → NeighbourTable) (s : State) (k : Key) : (s.modTable f).record k = s.record k := rfl

/-! ### modLine -/

@[simp] theorem State.modLine_acq (f : Line → Line) (s : State) : (s.modLine f).acq = s.acq := rfl
@[simp] theorem State.modLine_timers (f : Line → Line) (s : State) : (s.modLine f).timers = s.timers := rfl
@[simp] theorem State.modLine_eval (f : Line → Line) (s : State) : (s.modLine f).eval = s.eval := rfl
@[simp] theorem State.modLine_locals (f : Line → Line) (s : State) : (s.modLine f).locals = s.locals := rfl
@[simp] theorem State.modLine_table (f : Line → Line) (s : State) : (s.modLine f).table = s.table := rfl
@[simp] theorem State.modLine_line (f : Line → Line) (s : State) : (s.modLine f).line = f s.line := rfl
@[simp] theorem State.modLine_report (f : Line → Line) (s : State) : (s.modLine f).report = s.report := rfl
@[simp] theorem State.modLine_loader (f : Line → Line) (s : State) : (s.modLine f).loader = s.loader := rfl
@[simp] theorem State.modLine_pending (f : Line → Line) (s : State) : (s.modLine f).pending = s.pending := rfl
@[simp] theorem State.modLine_stopped (f : Line → Line) (s : State) : (s.modLine f).stopped = s.stopped := rfl
@[simp] theorem State.modLine_running (f : Line → Line) (s : State) : (s.modLine f).running = s.running := rfl
@[simp] theorem State.modLine_halted (f : Line → Line) (s : State) : (s.modLine f).halted = s.halted := rfl
@[simp] theorem State.modLine_startingUp (f : Line → Line) (s : State) : (s.modLine f).startingUp = s.startingUp := rfl
@[simp] theorem State.modLine_lineRuns (f : Line → Line) (s : State) : (s.modLine f).lineRuns = s.lineRuns := rfl
@[simp] theorem State.modLine_own (f : Line → Line) (s : State) : (s.modLine f).own = s.own := rfl
@[simp] theorem State.modLine_cfg (f : Line → Line) (s : State) : (s.modLine f).cfg = s.cfg := rfl
@[simp] theorem State.modLine_linesFollow (f : Line → Line) (s : State) : (s.modLine f).linesFollow = s.linesFollow := rfl
@[simp] theorem State.modLine_evaluating (f : Line → Line) (s : State) : (s.modLine f).evaluating = s.evaluating := rfl
@[simp] theorem State.modLine_entry (f : Line → Line) (s : State) (p : Nat) : (s.modLine f).entry p = s.entry p := rfl
@[simp] theorem State.modLine_record (f : Line → Line) (s : State) (k : Key) : (s.modLine f).record k = s.record k := rfl

/-! ### modReport -/

@[simp] theorem State.modReport_acq (f : Report → Report) (s : State) : (s.modReport f).acq = s.acq := rfl
@[simp] theorem State.modReport_timers (f : Report → Report) (s : State) : (s.modReport f).timers = s.timers := rfl
@[simp] theorem State.modReport_eval (f : Report → Report) (s : State) : (s.modReport f).eval = s.eval := rfl
@[simp] theorem State.modReport_locals (f : Report → Report) (s : State) : (s.modReport f).locals = s.locals := rfl
@[simp] theorem State.modReport_table (f : Report → Report) (s : State) : (s.modReport f).table = s.table := rfl
@[simp] theorem State.modReport_line (f : Report → Report) (s : State) : (s.modReport f).line = s.line := rfl
@[simp] theorem State.modReport_report (f : Report → Report) (s : State) : (s.modReport f).report = f s.report := rfl
@[simp] theorem State.modReport_loader (f : Report → Report) (s : State) : (s.modReport f).loader = s.loader := rfl
@[simp] theorem State.modReport_pending (f : Report → Report) (s : State) : (s.modReport f).pending = s.pending := rfl
@[simp] theorem State.modReport_stopped (f : Report → Report) (s : State) : (s.modReport f).stopped = s.stopped := rfl
@[simp] theorem State.modReport_running (f : Report → Report) (s : State) : (s.modReport f).running = s.running := rfl
@[simp] theorem State.modReport_halted (f : Report → Report) (s : State) : (s.modReport f).halted = s.halted := rfl
@[simp] theorem State.modReport_startingUp (f : Report → Report) (s : State) : (s.modReport f).startingUp = s.startingUp := rfl
@[simp] theorem State.modReport_lineRuns (f : Report → Report) (s : State) : (s.modReport f).lineRuns = s.lineRuns := rfl
@[simp] theorem State.modReport_own (f : Report → Report) (s : State) : (s.modReport f).own = s.own := rfl
@[simp] theorem State.modReport_cfg (f : Report → Report) (s : State) : (s.modReport f).cfg = s.cfg := rfl
@[simp] theorem State.modReport_linesFollow (f : Report → Report) (s : State) : (s.modReport f).linesFollow = s.linesFollow := rfl
@[simp] theorem State.modReport_evaluating (f : Report → Report) (s : State) : (s.modReport f).evaluating = s.evaluating := rfl
@[simp] theorem State.modReport_entry (f : Report → Report) (s : State) (p : Nat) : (s.modReport f).entry p = s.entry p := rfl

/-! ### modLoader -/

@[simp] theorem State.modLoader_acq (f : Loader → Loader) (s : State) : (s.modLoader f).acq = s.acq := rfl
@[simp] theorem State.modLoader_timers (f : Loader → Loader) (s : State) : (s.modLoader f).timers = s.timers := rfl
@[simp] theorem State.modLoader_eval (f : Loader → Loader) (s : State) : (s.modLoader f).eval = s.eval := rfl
@[simp] theorem State.modLoader_locals (f : Loader → Loader) (s : State) : (s.modLoader f).locals = s.locals := rfl
@[simp] theorem State.modLoader_table (f : Loader → Loader) (s : State) : (s.modLoader f).table = s.table := rfl
@[simp] theorem State.modLoader_line (f : Loader → Loader) (s : State) : (s.modLoader f).line = s.line := rfl
@[simp] theorem State.modLoader_report (f : Loader → Loader) (s : State) : (s.modLoader f).report = s.report := rfl
@[simp] theorem State.modLoader_loader (f : Loader → Loader) (s : State) : (s.modLoader f).loader = f s.loader := rfl
@[simp] theorem State.modLoader_pending (f : Loader → Loader) (s : State) : (s.modLoader f).pending = s.pending := rfl
@[simp] theorem State.modLoader_evaluating (f : Loader → Loader) (s : State) : (s.modLoader f).evaluating = s.evaluating := rfl
@[simp] theorem State.modLoader_entry (f : Loader → Loader) (s : State) (p : Nat) : (s.modLoader f).entry p = s.entry p := rfl
@[simp] theorem State.modLoader_record (f : Loader → Loader) (s : State) (k : Key) : (s.modLoader f).record k = s.record k := rfl

/-! ### The output lines -/

@[simp] theorem State.driveLines_acq (s : State) : s.driveLines.acq = s.acq := rfl
@[simp] theorem State.driveLines_timers (s : State) : s.driveLines.timers = s.timers := rfl
@[simp] theorem State.driveLines_eval (s : State) : s.driveLines.eval = s.eval := rfl
@[simp] theorem State.driveLines_locals (s : State) : s.driveLines.locals = s.locals := rfl
@[simp] theorem State.driveLines_table (s : State) : s.driveLines.table = s.table := rfl
@[simp] theorem State.driveLines_line (s : State) : s.driveLines.line = s.line := rfl
@[simp] theorem State.driveLines_loader (s : State) : s.driveLines.loader = s.loader := rfl
@[simp] theorem State.driveLines_pending (s : State) : s.driveLines.pending = s.pending := rfl
@[simp] theorem State.driveLines_findings (s : State) : s.driveLines.report.findings = s.report.findings := rfl
@[simp] theorem State.driveLines_flags (s : State) : s.driveLines.report.flags = s.report.flags := rfl
@[simp] theorem State.driveLines_alertA (s : State) : s.driveLines.report.alertA = s.alertALevel := rfl
@[simp] theorem State.driveLines_alertB (s : State) : s.driveLines.report.alertB = s.alertBLevel := rfl
@[simp] theorem State.driveLines_fault (s : State) : s.driveLines.report.fault = s.faultLevel := rfl
@[simp] theorem State.driveLines_stopped (s : State) : s.driveLines.stopped = s.stopped := rfl
@[simp] theorem State.driveLines_running (s : State) : s.driveLines.running = s.running := rfl
@[simp] theorem State.driveLines_halted (s : State) : s.driveLines.halted = s.halted := rfl
@[simp] theorem State.driveLines_startingUp (s : State) : s.driveLines.startingUp = s.startingUp := rfl
@[simp] theorem State.driveLines_lineRuns (s : State) : s.driveLines.lineRuns = s.lineRuns := rfl
@[simp] theorem State.driveLines_own (s : State) : s.driveLines.own = s.own := rfl
@[simp] theorem State.driveLines_cfg (s : State) : s.driveLines.cfg = s.cfg := rfl
@[simp] theorem State.driveLines_linesFollow (s : State) : s.driveLines.linesFollow = s.linesFollow := rfl
@[simp] theorem State.driveLines_evaluating (s : State) : s.driveLines.evaluating = s.evaluating := rfl
@[simp] theorem State.driveLines_entry (s : State) (p : Nat) : s.driveLines.entry p = s.entry p := rfl
@[simp] theorem State.driveLines_record (s : State) (k : Key) : s.driveLines.record k = s.record k := rfl
/-- The levels do not depend on the lines, so driving them again changes nothing. -/
@[simp] theorem State.driveLines_driveLines (s : State) : s.driveLines.driveLines = s.driveLines := rfl
@[simp] theorem State.driveLines_levels (s : State) :
    s.driveLines.alertALevel = s.alertALevel ∧ s.driveLines.alertBLevel = s.alertBLevel
      ∧ s.driveLines.faultLevel = s.faultLevel := ⟨rfl, rfl, rfl⟩

/-! ### Flags and entries -/

@[simp] theorem State.modFlags_acq (f : StickyFlags → StickyFlags) (s : State) : (s.modFlags f).acq = s.acq := rfl
@[simp] theorem State.modFlags_timers (f : StickyFlags → StickyFlags) (s : State) : (s.modFlags f).timers = s.timers := rfl
@[simp] theorem State.modFlags_eval (f : StickyFlags → StickyFlags) (s : State) : (s.modFlags f).eval = s.eval := rfl
@[simp] theorem State.modFlags_locals (f : StickyFlags → StickyFlags) (s : State) : (s.modFlags f).locals = s.locals := rfl
@[simp] theorem State.modFlags_table (f : StickyFlags → StickyFlags) (s : State) : (s.modFlags f).table = s.table := rfl
@[simp] theorem State.modFlags_line (f : StickyFlags → StickyFlags) (s : State) : (s.modFlags f).line = s.line := rfl
@[simp] theorem State.modFlags_loader (f : StickyFlags → StickyFlags) (s : State) : (s.modFlags f).loader = s.loader := rfl
@[simp] theorem State.modFlags_pending (f : StickyFlags → StickyFlags) (s : State) : (s.modFlags f).pending = s.pending := rfl
@[simp] theorem State.modFlags_findings (f : StickyFlags → StickyFlags) (s : State) :
    (s.modFlags f).report.findings = s.report.findings := rfl
@[simp] theorem State.modFlags_flags (f : StickyFlags → StickyFlags) (s : State) :
    (s.modFlags f).report.flags = f s.report.flags := rfl
@[simp] theorem State.modFlags_stopped (f : StickyFlags → StickyFlags) (s : State) : (s.modFlags f).stopped = s.stopped := rfl
@[simp] theorem State.modFlags_running (f : StickyFlags → StickyFlags) (s : State) : (s.modFlags f).running = s.running := rfl
@[simp] theorem State.modFlags_halted (f : StickyFlags → StickyFlags) (s : State) : (s.modFlags f).halted = s.halted := rfl
@[simp] theorem State.modFlags_startingUp (f : StickyFlags → StickyFlags) (s : State) : (s.modFlags f).startingUp = s.startingUp := rfl
@[simp] theorem State.modFlags_lineRuns (f : StickyFlags → StickyFlags) (s : State) : (s.modFlags f).lineRuns = s.lineRuns := rfl
@[simp] theorem State.modFlags_own (f : StickyFlags → StickyFlags) (s : State) : (s.modFlags f).own = s.own := rfl
@[simp] theorem State.modFlags_cfg (f : StickyFlags → StickyFlags) (s : State) : (s.modFlags f).cfg = s.cfg := rfl
@[simp] theorem State.modFlags_linesFollow (f : StickyFlags → StickyFlags) (s : State) : (s.modFlags f).linesFollow = s.linesFollow := rfl
@[simp] theorem State.modFlags_evaluating (f : StickyFlags → StickyFlags) (s : State) : (s.modFlags f).evaluating = s.evaluating := rfl
@[simp] theorem State.modEntry_acq (p : Nat) (f : Entry → Entry) (s : State) : (s.modEntry p f).acq = s.acq := rfl
@[simp] theorem State.modEntry_timers (p : Nat) (f : Entry → Entry) (s : State) : (s.modEntry p f).timers = s.timers := rfl
@[simp] theorem State.modEntry_eval (p : Nat) (f : Entry → Entry) (s : State) : (s.modEntry p f).eval = s.eval := rfl
@[simp] theorem State.modEntry_locals (p : Nat) (f : Entry → Entry) (s : State) : (s.modEntry p f).locals = s.locals := rfl
@[simp] theorem State.modEntry_line (p : Nat) (f : Entry → Entry) (s : State) : (s.modEntry p f).line = s.line := rfl
@[simp] theorem State.modEntry_report (p : Nat) (f : Entry → Entry) (s : State) : (s.modEntry p f).report = s.report := rfl
@[simp] theorem State.modEntry_loader (p : Nat) (f : Entry → Entry) (s : State) : (s.modEntry p f).loader = s.loader := rfl
@[simp] theorem State.modEntry_pending (p : Nat) (f : Entry → Entry) (s : State) : (s.modEntry p f).pending = s.pending := rfl
@[simp] theorem State.modEntry_stopped (p : Nat) (f : Entry → Entry) (s : State) : (s.modEntry p f).stopped = s.stopped := rfl
@[simp] theorem State.modEntry_running (p : Nat) (f : Entry → Entry) (s : State) : (s.modEntry p f).running = s.running := rfl
@[simp] theorem State.modEntry_halted (p : Nat) (f : Entry → Entry) (s : State) : (s.modEntry p f).halted = s.halted := rfl
@[simp] theorem State.modEntry_startingUp (p : Nat) (f : Entry → Entry) (s : State) : (s.modEntry p f).startingUp = s.startingUp := rfl
@[simp] theorem State.modEntry_lineRuns (p : Nat) (f : Entry → Entry) (s : State) : (s.modEntry p f).lineRuns = s.lineRuns := rfl
@[simp] theorem State.modEntry_own (p : Nat) (f : Entry → Entry) (s : State) : (s.modEntry p f).own = s.own := rfl
@[simp] theorem State.modEntry_cfg (p : Nat) (f : Entry → Entry) (s : State) : (s.modEntry p f).cfg = s.cfg := rfl
@[simp] theorem State.modEntry_linesFollow (p : Nat) (f : Entry → Entry) (s : State) : (s.modEntry p f).linesFollow = s.linesFollow := rfl
@[simp] theorem State.modEntry_evaluating (p : Nat) (f : Entry → Entry) (s : State) : (s.modEntry p f).evaluating = s.evaluating := rfl
@[simp] theorem State.modEntry_saturated (p : Nat) (f : Entry → Entry) (s : State) :
    (s.modEntry p f).table.saturated = s.table.saturated := rfl
@[simp] theorem State.modEntry_duplicateTimer (p : Nat) (f : Entry → Entry) (s : State) :
    (s.modEntry p f).table.duplicateTimer = s.table.duplicateTimer := rfl
@[simp] theorem State.modRecord_acq (k : Key) (f : Finding → Finding) (s : State) : (s.modRecord k f).acq = s.acq := rfl
@[simp] theorem State.modRecord_timers (k : Key) (f : Finding → Finding) (s : State) : (s.modRecord k f).timers = s.timers := rfl
@[simp] theorem State.modRecord_eval (k : Key) (f : Finding → Finding) (s : State) : (s.modRecord k f).eval = s.eval := rfl
@[simp] theorem State.modRecord_locals (k : Key) (f : Finding → Finding) (s : State) : (s.modRecord k f).locals = s.locals := rfl
@[simp] theorem State.modRecord_table (k : Key) (f : Finding → Finding) (s : State) : (s.modRecord k f).table = s.table := rfl
@[simp] theorem State.modRecord_line (k : Key) (f : Finding → Finding) (s : State) : (s.modRecord k f).line = s.line := rfl
@[simp] theorem State.modRecord_loader (k : Key) (f : Finding → Finding) (s : State) : (s.modRecord k f).loader = s.loader := rfl
@[simp] theorem State.modRecord_pending (k : Key) (f : Finding → Finding) (s : State) : (s.modRecord k f).pending = s.pending := rfl
@[simp] theorem State.modRecord_stopped (k : Key) (f : Finding → Finding) (s : State) : (s.modRecord k f).stopped = s.stopped := rfl
@[simp] theorem State.modRecord_running (k : Key) (f : Finding → Finding) (s : State) : (s.modRecord k f).running = s.running := rfl
@[simp] theorem State.modRecord_halted (k : Key) (f : Finding → Finding) (s : State) : (s.modRecord k f).halted = s.halted := rfl
@[simp] theorem State.modRecord_startingUp (k : Key) (f : Finding → Finding) (s : State) : (s.modRecord k f).startingUp = s.startingUp := rfl
@[simp] theorem State.modRecord_lineRuns (k : Key) (f : Finding → Finding) (s : State) : (s.modRecord k f).lineRuns = s.lineRuns := rfl
@[simp] theorem State.modRecord_own (k : Key) (f : Finding → Finding) (s : State) : (s.modRecord k f).own = s.own := rfl
@[simp] theorem State.modRecord_cfg (k : Key) (f : Finding → Finding) (s : State) : (s.modRecord k f).cfg = s.cfg := rfl
@[simp] theorem State.modRecord_linesFollow (k : Key) (f : Finding → Finding) (s : State) : (s.modRecord k f).linesFollow = s.linesFollow := rfl
@[simp] theorem State.modRecord_evaluating (k : Key) (f : Finding → Finding) (s : State) : (s.modRecord k f).evaluating = s.evaluating := rfl
@[simp] theorem State.modRecord_flags (k : Key) (f : Finding → Finding) (s : State) :
    (s.modRecord k f).report.flags = s.report.flags := rfl

/-- Reading a role's value after setting it gives the value set; another role's is as before. -/
@[simp] theorem PerRole.get_set {α : Type} (p : PerRole α) (r q : Role) (v : α) :
    (p.set r v).get q = if q = r then v else p.get q := by
  cases r <;> cases q <;> rfl

end Sys2Proof.Machine
end

