-- ==== Sys2Proof/Laws/Frames.lean ====
section
/-! SUPPORT. What the shared operations leave alone. Everything that the pair coordinator, the report unit, the neighbour
table and the line controller do for one another stays inside the table, the line and the report unit: `KeepsCore`. One
lemma per shared operation; a later proof cites it and does not unfold the operation. -/

namespace Sys2Proof.Machine

namespace KeepsCore

variable {s t u : State}

theorem refl (s : State) : KeepsCore s s := ⟨rfl, rfl, rfl, rfl, rfl, rfl⟩

theorem trans (h : KeepsCore s t) (k : KeepsCore t u) : KeepsCore s u :=
  ⟨k.acq.trans h.acq, k.timers.trans h.timers, k.eval.trans h.eval, k.locals.trans h.locals,
    k.loader.trans h.loader, k.pending.trans h.pending⟩

theorem modTable (f : NeighbourTable → NeighbourTable) (s : State) : KeepsCore s (s.modTable f) :=
  ⟨rfl, rfl, rfl, rfl, rfl, rfl⟩
theorem modLine (f : Line → Line) (s : State) : KeepsCore s (s.modLine f) := ⟨rfl, rfl, rfl, rfl, rfl, rfl⟩
theorem modReport (f : Report → Report) (s : State) : KeepsCore s (s.modReport f) := ⟨rfl, rfl, rfl, rfl, rfl, rfl⟩
theorem modEntry (p : Nat) (f : Entry → Entry) (s : State) : KeepsCore s (s.modEntry p f) := modTable _ s
theorem modRecord (k : Key) (f : Finding → Finding) (s : State) : KeepsCore s (s.modRecord k f) := modReport _ s
theorem modActiveRecord (k : Key) (f : Finding → Finding) (s : State) : KeepsCore s (s.modActiveRecord k f) :=
  ⟨rfl, rfl, rfl, rfl, rfl, rfl⟩
theorem modFlags (f : StickyFlags → StickyFlags) (s : State) : KeepsCore s (s.modFlags f) := modReport _ s
theorem driveLines (s : State) : KeepsCore s s.driveLines := modReport _ s

/-- A fold of operations that each keep the core keeps it. -/
theorem foldl {α : Type} (f : State → α → State) (hf : ∀ s a, KeepsCore s (f s a)) (l : List α) (s : State) :
    KeepsCore s (l.foldl f s) := by
  induction l generalizing s with
  | nil => exact refl s
  | cons a l ih => exact (hf s a).trans (ih _)

theorem running (h : KeepsCore s t) : t.running = s.running := by simp [State.running, State.stopped, h.loader]
theorem halted (h : KeepsCore s t) : t.halted = s.halted := by simp [State.halted, State.stopped, h.loader]
theorem lineRuns (h : KeepsCore s t) : t.lineRuns = s.lineRuns := by
  simp [State.lineRuns, h.running, h.halted, h.loader]
theorem linesFollow (h : KeepsCore s t) : t.linesFollow = s.linesFollow := by
  simp [State.linesFollow, h.running, h.halted]
theorem evaluating (h : KeepsCore s t) : t.evaluating = s.evaluating := by simp [State.evaluating, h.eval]
theorem cfg (h : KeepsCore s t) : t.cfg = s.cfg := by simp [State.cfg, h.loader]
theorem own (h : KeepsCore s t) : t.own = s.own := by simp [State.own, h.loader]

end KeepsCore

/-! ### Report unit -/

theorem reportTransition_keepsCore (k : Key) (a b : CandState) (n : Nat) (h : Holder) (x : Bool) (s : State) :
    KeepsCore s (s.reportTransition k a b n h x) := by
  cases a <;> cases b <;>
    first
      | exact .refl s
      | exact ⟨rfl, rfl, rfl, rfl, rfl, rfl⟩

theorem withdrawRecord_keepsCore (k : Key) (s : State) : KeepsCore s (s.withdrawRecord k) :=
  ⟨rfl, rfl, rfl, rfl, rfl, rfl⟩
theorem handScore_keepsCore (k : Key) (n : Nat) (s : State) : KeepsCore s (s.handScore k n) :=
  ⟨rfl, rfl, rfl, rfl, rfl, rfl⟩
theorem recordSettled_keepsCore (p : Nat) (c : Bool) (s : State) : KeepsCore s (s.recordSettled p c) :=
  ⟨rfl, rfl, rfl, rfl, rfl, rfl⟩
theorem recordClaiming_keepsCore (p : Nat) (s : State) : KeepsCore s (s.recordClaiming p) :=
  ⟨rfl, rfl, rfl, rfl, rfl, rfl⟩
theorem findingSent_keepsCore (k : Key) (c : RecordStatus) (s : State) : KeepsCore s (s.findingSent k c) :=
  ⟨rfl, rfl, rfl, rfl, rfl, rfl⟩
theorem acknowledgeRecord_keepsCore (k : Key) (s : State) : KeepsCore s (s.acknowledgeRecord k) :=
  ⟨rfl, rfl, rfl, rfl, rfl, rfl⟩
theorem queueFindings_keepsCore (s : State) : KeepsCore s s.queueFindings := .modLine _ s

theorem recordFollows_keepsCore (p : Nat) (s : State) : KeepsCore s (s.recordFollows p) := by
  unfold State.recordFollows
  dsimp only
  split
  · exact (KeepsCore.modLine _ s).trans (.modActiveRecord _ _ _)
  · exact .modActiveRecord _ _ s

theorem handLocal_keepsCore (s : State) (h : Handed) : KeepsCore s (s.handLocal h) := by
  unfold State.handLocal
  dsimp only
  split
  · exact (reportTransition_keepsCore ..).trans (handScore_keepsCore ..)
  · exact reportTransition_keepsCore ..

/-! ### Pair coordinator -/

theorem testClaim_keepsCore (p : Nat) (s : State) : KeepsCore s (s.testClaim p) := by
  unfold State.testClaim
  split
  · exact .refl s
  · split
    · exact ((KeepsCore.modLine _ s).trans (.modEntry _ _ _)).trans (recordClaiming_keepsCore _ _)
    · exact .refl s

theorem withdrawClaim_keepsCore (p : Nat) (s : State) : KeepsCore s (s.withdrawClaim p) :=
  (KeepsCore.modLine _ s).trans (.modEntry _ _ _)

theorem withdrawIfClaiming_keepsCore (p : Nat) (s : State) : KeepsCore s (s.withdrawIfClaiming p) := by
  unfold State.withdrawIfClaiming
  split
  · exact withdrawClaim_keepsCore p s
  · exact .refl s

theorem becomeFollower_keepsCore (p : Nat) (s : State) : KeepsCore s (s.becomeFollower p) :=
  ((withdrawIfClaiming_keepsCore p s).trans (.modEntry _ _ _)).trans (recordFollows_keepsCore p _)

theorem becomeUnheld_keepsCore (p : Nat) (s : State) : KeepsCore s (s.becomeUnheld p) :=
  (KeepsCore.modEntry _ _ s).trans (testClaim_keepsCore p _)

theorem unfollow_keepsCore (p : Nat) (s : State) : KeepsCore s (s.unfollow p) := by
  unfold State.unfollow
  split
  · exact becomeUnheld_keepsCore p s
  · exact .refl s

theorem settleHolder_keepsCore (p : Nat) (c : Bool) (s : State) : KeepsCore s (s.settleHolder p c) :=
  ((KeepsCore.modLine _ s).trans (.modEntry _ _ _)).trans (recordSettled_keepsCore _ _ _)

theorem settleStale_keepsCore (p : Nat) (s : State) : KeepsCore s (s.settleStale p) :=
  ((KeepsCore.modLine _ s).trans (.modEntry _ _ _)).trans (withdrawRecord_keepsCore _ _)

theorem claimRetry_keepsCore (p : Nat) (lost : Bool) (s : State) : KeepsCore s (s.claimRetry p lost) := by
  have base : ∀ u : State, KeepsCore s u → KeepsCore s
      (if (u.entry p).any (fun e => 16 ≤ e.claimAttempts) then (u.settleHolder p false).flagTelegramDiscarded else u) := by
    intro u h
    split
    · exact (h.trans (settleHolder_keepsCore p false u)).trans (.modFlags _ _)
    · exact h
  unfold State.claimRetry
  dsimp only
  apply base
  split
  · exact ((KeepsCore.modEntry _ _ s).trans (.modLine _ _)).trans (.modLine _ _)
  · exact (KeepsCore.modEntry _ _ s).trans (.modLine _ _)

theorem applyClaimOutcome_keepsCore (p : Nat) (o : AttemptEnd) (s : State) : KeepsCore s (s.applyClaimOutcome p o) := by
  unfold State.applyClaimOutcome
  split
  · cases o
    · exact claimRetry_keepsCore ..
    · exact settleStale_keepsCore ..
    · exact settleHolder_keepsCore ..
    · exact settleHolder_keepsCore ..
    · exact claimRetry_keepsCore ..
  · exact .refl s

theorem claimEnded_keepsCore (p : Nat) (o : AttemptEnd) (s : State) : KeepsCore s (s.claimEnded p o) := by
  unfold State.claimEnded
  split
  · exact .modLine _ s
  · exact applyClaimOutcome_keepsCore ..

theorem applyHeld_keepsCore (s : State) : KeepsCore s s.applyHeld :=
  (KeepsCore.modLine _ s).trans (.foldl _ (fun _ _ => applyClaimOutcome_keepsCore ..) _ _)

theorem decideClaim_keepsCore (p : Nat) (x : Byte) (s : State) : KeepsCore s (s.decideClaim p x) := by
  unfold State.decideClaim
  split
  · exact .modLine _ s
  · split
    · dsimp only
      split
      · exact (KeepsCore.modLine _ s).trans (becomeFollower_keepsCore p _)
      · exact .modLine _ s
    · exact .refl s

theorem listedBy_keepsCore (p : Nat) (s : State) : KeepsCore s (s.listedBy p) := by
  unfold State.listedBy
  split
  · exact .refl s
  · split
    · exact becomeFollower_keepsCore p s
    · exact becomeFollower_keepsCore p s
    · exact .refl s
    · split
      · exact .refl s
      · exact becomeFollower_keepsCore p s

theorem processHolders_keepsCore (p : Nat) (l : List Nat) (s : State) : KeepsCore s (s.processHolders p l) := by
  unfold State.processHolders
  split
  · exact listedBy_keepsCore p s
  · exact unfollow_keepsCore p s

theorem coordinate_keepsCore (p : Nat) (a b : CandState) (s : State) : KeepsCore s (s.coordinate p a b) := by
  unfold State.coordinate
  dsimp only
  refine KeepsCore.trans ?_ (testClaim_keepsCore p _)
  split
  · split
    · exact (withdrawIfClaiming_keepsCore p s).trans (.modEntry _ _ _)
    · exact withdrawIfClaiming_keepsCore p s
  · exact .refl s

theorem handPair_keepsCore (s : State) (p : Nat) (h : Handed) : KeepsCore s (s.handPair p h) := by
  unfold State.handPair
  dsimp only
  split
  · exact ((coordinate_keepsCore ..).trans (reportTransition_keepsCore ..)).trans (handScore_keepsCore ..)
  · exact (coordinate_keepsCore ..).trans (reportTransition_keepsCore ..)

/-! ### Neighbour table -/

theorem endCandidate_keepsCore (e : Entry) (s : State) : KeepsCore s (s.endCandidate e) := by
  unfold State.endCandidate
  split
  · exact withdrawRecord_keepsCore ..
  · exact .refl s

theorem removeEntry_keepsCore (p : Nat) (s : State) : KeepsCore s (s.removeEntry p) := by
  unfold State.removeEntry
  split
  · exact .refl s
  · exact ((endCandidate_keepsCore _ s).trans (withdrawIfClaiming_keepsCore p _)).trans (.modTable _ _)

theorem settleAge_keepsCore (s : State) (p : Nat) : KeepsCore s (s.settleAge p) := by
  unfold State.settleAge
  split
  · exact .refl s
  · split
    · exact removeEntry_keepsCore p s
    · split
      · exact unfollow_keepsCore p s
      · exact .refl s

theorem ageEntries_keepsCore (s : State) : KeepsCore s s.ageEntries :=
  (KeepsCore.modTable _ s).trans (.foldl _ settleAge_keepsCore _ _)

theorem refuseNeighbour_keepsCore (s : State) : KeepsCore s s.refuseNeighbour :=
  ⟨rfl, rfl, rfl, rfl, rfl, rfl⟩

theorem digestFromUnknown_keepsCore (p : Nat) (m : List Nat) (d : Digest) (s : State) :
    KeepsCore s (s.digestFromUnknown p m d) := by
  unfold State.digestFromUnknown
  split
  · exact .refl s
  · split
    · exact (KeepsCore.modTable _ s).trans (processHolders_keepsCore ..)
    · split
      · exact refuseNeighbour_keepsCore s
      · exact ((removeEntry_keepsCore _ s).trans (.modTable _ _)).trans (processHolders_keepsCore ..)

theorem digestFromKnown_keepsCore (p : Nat) (m : List Nat) (d : Digest) (s : State) :
    KeepsCore s (s.digestFromKnown p m d) := by
  unfold State.digestFromKnown
  split
  · exact removeEntry_keepsCore p s
  · dsimp only
    refine KeepsCore.trans ?_ (processHolders_keepsCore ..)
    split
    · exact (KeepsCore.modEntry _ _ s).trans (unfollow_keepsCore p _)
    · exact .modEntry _ _ s

theorem takeDigest_keepsCore (p : Nat) (d : Digest) (s : State) : KeepsCore s (s.takeDigest p d) := by
  unfold State.takeDigest
  split
  · exact .refl s
  · split
    · exact ⟨rfl, rfl, rfl, rfl, rfl, rfl⟩
    · split
      · exact .refl s
      · split
        · exact .refl s
        · dsimp only
          split
          · exact digestFromKnown_keepsCore ..
          · exact digestFromUnknown_keepsCore ..

/-! ### Receive and transmit queues -/

theorem answerStatus_keepsCore (p : Nat) (s : State) : KeepsCore s (s.answerStatus p) :=
  (KeepsCore.modLine _ s).trans (.modFlags _ _)

theorem answerList_keepsCore (p w n : Nat) (s : State) : KeepsCore s (s.answerList p w n) := by
  unfold State.answerList
  split
  · exact .modLine _ s
  · exact .refl s

theorem takeQuery_keepsCore (p w n : Nat) (s : State) : KeepsCore s (s.takeQuery p w n) := by
  unfold State.takeQuery
  split
  · exact answerStatus_keepsCore p s
  · exact answerList_keepsCore ..

theorem takeOne_keepsCore (s : State) (r : Received) : KeepsCore s (s.takeOne r) := by
  cases r
  · exact takeDigest_keepsCore ..
  · exact takeQuery_keepsCore ..

theorem takeReceived_keepsCore (s : State) : KeepsCore s s.takeReceived :=
  (KeepsCore.modLine _ s).trans (.foldl _ takeOne_keepsCore _ _)

theorem access_keepsCore (s : State) : KeepsCore s s.access := by
  unfold State.access
  split
  · exact .modLine _ s
  · exact .refl s

/-- During an evaluation a telegram that joins waits. -/
theorem join_of_evaluating {s : State} (r : Received) (h : s.evaluating = true) :
    s.join r = s.modLine fun l => { l with received := l.received ++ [r] } := by
  have : (s.modLine fun l => { l with received := l.received ++ [r] }).evaluating = true := h
  simp [State.join, this]

/-- Outside one, with nothing waiting, it is taken at once. -/
theorem join_of_not_evaluating {s : State} (r : Received) (h : s.evaluating = false) (h0 : s.line.received = []) :
    s.join r = s.takeOne r := by
  obtain ⟨acq, timers, eval, locals, table, line, report, loader, pending⟩ := s
  obtain ⟨⟩ := line
  cases h0
  simp only [State.evaluating] at h
  simp [State.join, State.takeReceived, State.modLine, State.evaluating, h]

theorem join_keepsCore (r : Received) (s : State) : KeepsCore s (s.join r) := by
  unfold State.join
  dsimp only
  split
  · exact .modLine _ s
  · exact (KeepsCore.modLine _ s).trans (takeReceived_keepsCore _)

theorem driveMark_keepsCore (m : Mark) (s : State) : KeepsCore s (s.driveMark m) := .modLine _ s

theorem acceptDigest_keepsCore (t : Telegram) (s : State) : KeepsCore s (s.acceptDigest t) := by
  unfold State.acceptDigest
  split
  · dsimp only
    split
    · exact (KeepsCore.modFlags _ s).trans (.modLine _ _)
    · exact .modFlags _ s
  · exact join_keepsCore ..

theorem acceptQuery_keepsCore (t : Telegram) (s : State) : KeepsCore s (s.acceptQuery t) := by
  unfold State.acceptQuery
  split
  · exact driveMark_keepsCore ..
  · split
    · exact (KeepsCore.modFlags _ s).trans (.modLine _ _)
    · exact join_keepsCore ..

theorem acceptAcknowledge_keepsCore (t : Telegram) (s : State) : KeepsCore s (s.acceptAcknowledge t) := by
  unfold State.acceptAcknowledge
  split
  · exact driveMark_keepsCore ..
  · split
    · split
      · exact .refl s
      · dsimp only
        split
        · exact (driveMark_keepsCore _ s).trans (acknowledgeRecord_keepsCore _ _)
        · exact .refl s
    · exact .refl s

/-- What a received telegram can do besides being heard, left, or refused with a mark is what its handler does. -/
theorem receive_keepsCore (kind : Nat) (chars : List Byte) (handle : Telegram → State → State) (s : State)
    (hh : ∀ t u, KeepsCore u (handle t u)) : KeepsCore s (s.receive kind chars handle) := by
  unfold State.receive
  split
  · exact .modLine _ s
  · dsimp only
    split
    · split
      · exact (KeepsCore.modLine _ s).trans (.modLine _ _)
      · exact .modLine _ s
    · split
      · exact (KeepsCore.modLine _ s).trans (hh _ _)
      · exact .modLine _ s

/-! ### The end of an attempt -/

theorem countOrSpend_keepsCore (o : Outgoing) (s : State) : KeepsCore s (s.countOrSpend o) := by
  unfold State.countOrSpend
  dsimp only
  split
  · exact ((KeepsCore.modLine _ s).trans (.modLine _ _)).trans (.modFlags _ _)
  · exact .modLine _ s

theorem sent_keepsCore (t : Transmission) (s : State) : KeepsCore s (s.sent t) := by
  unfold State.sent
  split
  · exact .modLine _ s
  · dsimp only
    split
    · exact (KeepsCore.modLine _ s).trans (queueFindings_keepsCore _)
    · exact ((KeepsCore.modLine _ s).trans (findingSent_keepsCore _ _ _)).trans (queueFindings_keepsCore _)
  · exact .modLine _ s
  · exact .refl s

theorem detachedWindow_keepsCore (t : Transmission) (e : AttemptEnd) (s : State) :
    KeepsCore s (s.detachedWindow t e) := by
  unfold State.detachedWindow
  split
  · split
    · exact .refl s
    · exact .modLine _ s
  · dsimp only
    split
    · exact .modLine _ s
    · exact (KeepsCore.modLine _ s).trans (.modLine _ _)
  · exact .modLine _ s
  · exact .modLine _ s

theorem queuedWindow_keepsCore (t : Transmission) (e : AttemptEnd) (s : State) :
    KeepsCore s (s.queuedWindow t e) := by
  unfold State.queuedWindow
  split
  · refine KeepsCore.trans ?_ (claimEnded_keepsCore _ _ _)
    split
    · exact .modLine _ s
    · exact .refl s
  · split
    · exact (KeepsCore.modLine _ s).trans (countOrSpend_keepsCore _ _)
    · exact sent_keepsCore t s

theorem attemptLost_keepsCore (t : Transmission) (s : State) : KeepsCore s (s.attemptLost t) := by
  unfold State.attemptLost
  split
  · exact claimEnded_keepsCore ..
  · exact (KeepsCore.modLine _ s).trans (countOrSpend_keepsCore ..)
  · exact .modLine _ s
  · exact .modLine _ s

/-! ### The evaluation -/

/-- The update of the candidates writes the local candidates, the entries and what follows from their transitions. -/
theorem updateCandidates_keeps (x : Summary) (s : State) :
    KeepsCore { s with locals := s.locals.map (LocalCandidate.evaluate s.cfg s.acq.frozen s.eval.epochChanged) }
      (s.updateCandidates x) := by
  unfold State.updateCandidates
  dsimp only
  refine KeepsCore.trans ?_ (KeepsCore.foldl _ (fun _ _ => handPair_keepsCore ..) _ _)
  refine KeepsCore.trans ?_ (KeepsCore.foldl _ handLocal_keepsCore _ _)
  exact ⟨rfl, rfl, rfl, rfl, rfl, rfl⟩

end Sys2Proof.Machine
end

