-- ==== Sys2Proof/Laws/Tables.lean ====
section
/-! SUPPORT. What each shared operation over the neighbour table, the finding list, the transmit queue and the output
lines can do, said once. -/

namespace Sys2Proof.Machine

/-! ### The neighbour table -/

/-- The station of an entry that `find` answers. -/
theorem NeighbourTable.find_station {t : NeighbourTable} {p : Nat} {e : Entry} (h : t.find p = some e) :
    e ∈ t.entries ∧ e.station = p :=
  ⟨List.mem_of_find?_eq_some h, by simpa using List.find?_some h⟩

/-- Changing the entry of one station, the change keeping station numbers. -/
theorem NeighbourTable.find_update (t : NeighbourTable) (p q : Nat) (f : Entry → Entry)
    (hf : ∀ e, (f e).station = e.station) :
    (t.update p f).find q = if q = p then (t.find p).map f else t.find q := by
  obtain ⟨l, sat, d⟩ := t
  simp only [NeighbourTable.update, NeighbourTable.find]
  induction l with
  | nil => simp
  | cons e l ih =>
    by_cases he : e.station = q <;> by_cases hq : q = p <;> by_cases hp : e.station = p <;>
      simp_all

/-- Every entry but the one of station `p` is as before. -/
theorem NeighbourTable.mem_update_of_ne {t : NeighbourTable} {p : Nat} {f : Entry → Entry} {g : Entry}
    (hf : ∀ e, (f e).station = e.station) (hg : g.station ≠ p) : g ∈ (t.update p f).entries ↔ g ∈ t.entries := by
  simp only [NeighbourTable.update, List.mem_map]
  constructor
  · rintro ⟨e, he, rfl⟩
    split at hg
    · rename_i h
      exact absurd (by simpa [hf] using h) hg
    · rename_i h
      simpa [h] using he
  · exact fun h => ⟨g, h, by simp [hg]⟩

/-- The stations of the table stand in their order. -/
theorem NeighbourTable.stations_update (t : NeighbourTable) (p : Nat) (f : Entry → Entry)
    (hf : ∀ e, (f e).station = e.station) : (t.update p f).entries.map Entry.station = t.entries.map Entry.station := by
  simp only [NeighbourTable.update, List.map_map]
  exact List.map_congr_left fun e _ => by simp only [Function.comp]; split <;> simp [hf]

/-! ### The finding list -/

/-- The records of a changed list: those of other keys, and the changed ones of the key that are not done (R166). -/
theorem mem_changeRecord {k : Key} {f : Finding → Finding} {l : List Finding} (hf : ∀ r, (f r).key = r.key)
    {r : Finding} :
    r ∈ changeRecord k f l ↔ (r ∈ l ∧ r.key ≠ k) ∨ ∃ x ∈ l, x.key = k ∧ f x = r ∧ r.done = false := by
  simp only [changeRecord, List.mem_filter, List.mem_map]
  constructor
  · rintro ⟨⟨x, hx, rfl⟩, h⟩
    split at h
    · rename_i hk
      exact .inr ⟨x, hx, by simpa using hk, by simp [hk], by simpa [hk, hf] using h⟩
    · rename_i hk
      have hk' : x.key ≠ k := by simpa using hk
      exact .inl ⟨by simpa [hk'] using hx, by simp [hk']⟩
  · rintro (⟨h, hk⟩ | ⟨x, hx, hk, rfl, hd⟩)
    · exact ⟨⟨r, h, by simp [hk]⟩, by simp [hk]⟩
    · exact ⟨⟨x, hx, by simp [hk]⟩, by simp [hd]⟩

/-- Room is made only by removing an inactive record (R159). -/
theorem mem_of_mem_makeRoom {l : List Finding} {r : Finding} (h : r ∈ makeRoom l) : r ∈ l := by
  unfold makeRoom at h
  split at h
  · exact List.mem_of_mem_eraseP h
  · exact h

/-- No active record is removed to make room (R159). -/
theorem mem_makeRoom_of_active {l : List Finding} {r : Finding} (hr : r.status.isActive = true) (h : r ∈ l) :
    r ∈ makeRoom l := by
  unfold makeRoom
  split
  · exact (List.mem_eraseP_of_neg (by simp [hr])).mpr h
  · exact h

/-- Room is made in a list that holds an inactive record, or is not full (R158, R159). -/
theorem length_makeRoom {l : List Finding} (h : l.length ≤ 24) (hi : l.length = 24 → ∃ r ∈ l, r.status.isActive = false) :
    (makeRoom l).length ≤ 23 := by
  unfold makeRoom
  split
  · rename_i hl
    obtain ⟨r, hr, ha⟩ := hi (by omega)
    rw [List.length_eraseP_of_mem hr (by simp [ha])]
    omega
  · omega

/-! ### The transmit queue -/

/-- What the queue holds after a telegram has joined it. -/
@[simp] theorem Line.holds_submit (o p : Outgoing) (l : Line) : (l.submit o).holds p = (l.holds p || o == p) := by
  simp [Line.holds, Line.submit]

/-- What the queue holds after a telegram has left it. -/
@[simp] theorem Line.holds_leave (o p : Outgoing) (l : Line) : (l.leave o).holds p = (l.holds p && p != o) := by
  rw [Bool.eq_iff_iff]
  simp only [Line.holds, Line.leave, List.any_filter, List.any_eq_true, Bool.and_eq_true, beq_iff_eq, bne_iff_ne]
  constructor
  · rintro ⟨q, hq, hne, rfl⟩
    exact ⟨⟨q, hq, rfl⟩, hne⟩
  · rintro ⟨⟨q, hq, rfl⟩, hne⟩
    exact ⟨q, hq, hne, rfl⟩

/-- A telegram that the queue does not hold is not in it. -/
theorem Line.queue_filter_of_not_holds {l : Line} {o : Outgoing} (h : l.holds o = false) :
    (l.queue.filter fun q => q.telegram != o) = l.queue := by
  refine List.filter_eq_self.mpr fun q hq => ?_
  have : l.queue.any (fun q => q.telegram == o) = false := h
  simpa using List.any_eq_false.mp this q hq

/-- A withdrawal takes the telegram's place from the queue, waiting or on the line (R119, R153, R161). -/
@[simp] theorem Line.withdraw_queue (o : Outgoing) (l : Line) :
    (l.withdraw o).queue = l.queue.filter fun q => q.telegram != o := by
  unfold Line.withdraw
  split
  · split <;> rfl
  · rename_i h
    exact (Line.queue_filter_of_not_holds (by simpa using h)).symm

/-- One attempt counted leaves the telegrams of the queue in their places. -/
@[simp] theorem Line.countAttempt_telegrams (o : Outgoing) (l : Line) :
    (l.countAttempt o).queue.map Queued.telegram = l.queue.map Queued.telegram := by
  simp only [Line.countAttempt, List.map_map]
  exact List.map_congr_left fun q _ => by simp only [Function.comp]; split <;> rfl

/-- The beginning of a backoff changes the backoff and the count of draws alone (R141). -/
theorem Line.beginBackoff_eq {l : Line} (hw : 0 < l.window) :
    l.beginBackoff = l ∨ ∃ b, b < l.window ∧ l.idle = true ∧ l.backoff = none ∧ l.transmission = none
      ∧ l.beginBackoff = { l with backoff := some b, draws := l.draws + 1 } := by
  unfold Line.beginBackoff
  split
  · rename_i h
    simp only [Bool.and_eq_true, Option.isNone_iff_eq_none] at h
    exact .inr ⟨_, Nat.mod_lt _ hw, h.1.1.1, h.1.1.2, h.1.2, rfl⟩
  · exact .inl rfl

/-- The fields that the beginning of a backoff leaves alone. -/
@[simp] theorem Line.beginBackoff_queue (l : Line) : l.beginBackoff.queue = l.queue := by
  unfold Line.beginBackoff; split <;> rfl
@[simp] theorem Line.beginBackoff_received (l : Line) : l.beginBackoff.received = l.received := by
  unfold Line.beginBackoff; split <;> rfl
@[simp] theorem Line.beginBackoff_held (l : Line) : l.beginBackoff.held = l.held := by
  unfold Line.beginBackoff; split <;> rfl
@[simp] theorem Line.beginBackoff_window (l : Line) : l.beginBackoff.window = l.window := by
  unfold Line.beginBackoff; split <;> rfl
@[simp] theorem Line.beginBackoff_transmission (l : Line) : l.beginBackoff.transmission = l.transmission := by
  unfold Line.beginBackoff; split <;> rfl
@[simp] theorem Line.beginBackoff_tracking (l : Line) : l.beginBackoff.tracking = l.tracking := by
  unfold Line.beginBackoff; split <;> rfl
@[simp] theorem Line.beginBackoff_pauses (l : Line) : l.beginBackoff.pauses = l.pauses := by
  unfold Line.beginBackoff; split <;> rfl
@[simp] theorem Line.beginBackoff_restartPending (l : Line) : l.beginBackoff.restartPending = l.restartPending := by
  unfold Line.beginBackoff; split <;> rfl
@[simp] theorem Line.beginBackoff_idle (l : Line) : l.beginBackoff.idle = l.idle := by
  unfold Line.beginBackoff; split <;> rfl
@[simp] theorem Line.beginBackoff_mark (l : Line) : l.beginBackoff.mark = l.mark := by
  unfold Line.beginBackoff; split <;> rfl

/-- Line access changes the line controller alone. -/
theorem State.access_eq (s : State) : s.access = s ∨ s.access = s.modLine Line.beginBackoff := by
  unfold State.access
  split
  · exact .inr rfl
  · exact .inl rfl

/-! ### The output lines -/

/-- The end of a command: it goes on, its lines driven. -/
theorem finish_eq_next {s t : State} : finish s = .next t ↔ t = s.driveLines := by
  simp only [finish, Host.Outcome.next.injEq]
  exact eq_comm

/-- Driving the lines changes nothing that their levels are taken from. -/
@[simp] theorem State.driveLines_alertALevel (s : State) : s.driveLines.alertALevel = s.alertALevel := rfl
@[simp] theorem State.driveLines_alertBLevel (s : State) : s.driveLines.alertBLevel = s.alertBLevel := rfl
@[simp] theorem State.driveLines_faultLevel (s : State) : s.driveLines.faultLevel = s.faultLevel := rfl

/-- Driven lines are at their levels (R167, R168). -/
theorem State.driveLines_agree (s : State) : s.driveLines.LinesAgree := ⟨rfl, rfl, rfl⟩

/-! ### Loading -/

/-- A clamped value lies in its range (R176). -/
theorem clampTo_range {lo hi : Nat} (h : lo ≤ hi) (n : Nat) : lo ≤ clampTo lo hi n ∧ clampTo lo hi n ≤ hi := by
  unfold clampTo
  omega

/-- A value in the range is kept (R176). -/
theorem clampTo_of_mem {lo hi n : Nat} (h₁ : lo ≤ n) (h₂ : n ≤ hi) : clampTo lo hi n = n := by
  unfold clampTo
  omega

end Sys2Proof.Machine
end

