-- ==== Sys2Proof/WellFormed.lean ====
section
/-! DEFINITION. Which terms of `Instr` are commands the world can send: a complete image is 128 bytes (R174), a
telegram's characters are 6 + L with L at most 40 (R137, R138), and a telegram whose check passes has the kind, and for
a RESTART the value, that its row of the table names (R147, R149). A telegram of no kind of R147, or a RESTART of no
value of R149, has no row of its own and may come under any row of its form: R155 ignores it. -/

namespace Sys2Proof

open Machine

/-- The characters form a telegram that can be followed to its window, of kind `kind`, or of no kind of R147, when its
check passes. -/
def telegramOfKind (kind : Nat) (chars : List Byte) : Bool :=
  framed chars && (!checkPasses chars
    || (readTelegram chars).kind == kind || (readTelegram chars).kind == 0 || 7 < (readTelegram chars).kind)

/-- A RESTART whose check passes carries the value of its row, 1 WARM or 2 COLD (R149), or none of them. -/
def restartOfValue (value : Nat) (chars : List Byte) : Bool :=
  telegramOfKind 7 chars && (!checkPasses chars || byteAt (readTelegram chars).body 1 != 3 - value)

/-- The command is one that the world outside the part can send. -/
def Instr.wellFormed : Instr → Bool
  | .powerOn _ => true
  | .resetLineAsserted => true
  | .resetLineReleased _ => true
  | .imageReadComplete image => image.length == 128
  | .memorySilent => true
  | .scanStrobe _ _ => true
  | .conversionComplete _ => true
  | .periodExpiry => true
  | .evaluationCompletion => true
  | .lineIdle => true
  | .leaveTelegram => true
  | .defer => true
  | .backoffEnd => true
  | .contentionLoss => true
  | .attemptOutcome _ _ _ => true
  | .repeatPauseEnd => true
  | .receiveDigest chars => telegramOfKind 1 chars
  | .digestTaken => true
  | .receiveClaim chars => telegramOfKind 2 chars
  | .receiveQuery chars => telegramOfKind 4 chars
  | .queryStatus => true
  | .queryFindings => true
  | .queryNeighbours => true
  | .acknowledge chars => telegramOfKind 6 chars
  | .restartWarm chars _ => restartOfValue 1 chars
  | .restartCold chars _ => restartOfValue 2 chars
  | .receiveFinding chars => telegramOfKind 3 chars
  | .receiveReply chars => telegramOfKind 5 chars
  | .startBitRead => true
  | .lineFaultOnTransmit => true

end Sys2Proof
end

