-- ==== Sys2Proof/Tests/Slice0.lean ====
section
/-! SUPPORT. Own tests: the checks of `Instr.wellFormed`, the spec's worked cases (expected values copied from the
section named at each test), and, for every obligation with hypotheses, states and operands that meet them. -/

namespace Sys2Proof.Tests

set_option maxRecDepth 100000

open Sys2Proof Sys2Proof.Machine

/-! ### Small states -/

/-- The typical configuration of section 1.8 on 10 channels, own zones of section 5.7. -/
def cfg : Configuration :=
  { scanTap := 3, periodTap := 2
    roles := [some .oat, some .rat, some .mat, some .dat, some .hvc, some .cvc, some .dmc, some .dmf, some .spt, none]
    scanList := [2, 0, 1, 2, 3, 4, 5, 6, 7, 8]
    zones := [some ⟨40, 2⟩, some ⟨112, 0⟩, none, none]
    params := ⟨96, 154, 154, 410, 41, 205, 16, 48, 615, 205, 6, 32⟩
    routing := 0x3401#16 }

/-- Station 17 RUNNING with that configuration, nothing else having happened, its last telegram past. -/
def up : State :=
  { State.reset with
    timers := some ⟨0, 0, 65536⟩
    line := { Line.restart 0 with tracking := .afterWindow }
    loader := { supply := true, resetAsserted := false, station := .running, halt := .none, cause := .power
                number := some 17, config := some cfg, version := 3 } }

/-- The same, its evaluation in flight until 40 tu. -/
def busy : State := up.modEval fun e => { e with inFlight := some 40 }

/-- The same station HALTED. -/
def dead : State := up.modLoader fun l => { l with station := .halted, halt := .memorySilent, config := none }

/-- The same station STARTING, its straps read. -/
def booting : State := State.reset.modLoader fun l => { l with supply := true, number := some 17 }

/-- A digest's summary with an epoch and an effort. -/
def summary (epoch : Byte) (effort : Int) : Summary := ⟨9#8, epoch, true, true, effort, false⟩

/-- An entry of station `p`, FRESH, its reservation holding against own epoch 0 and peer epoch 3. -/
def entry (p : Nat) (score : Nat) (state : CandState) (o : Ownership) : Entry :=
  { station := p, matchSet := [1], lastDigest := summary 3#8 700, age := 0, pair := ⟨score, state, none⟩
    ownership := o, claimAttempts := 0, reservedOwn := 0#8, reservedPeer := 3#8 }

/-- The same entry at another age. -/
def aged (age : Nat) (e : Entry) : Entry := { e with age := age }

/-- A record with a key, a status and an announced field, SELF. -/
def record (k : Key) (status : RecordStatus) (announced : Bool) : Finding :=
  { key := k, status := status, holder := .self, corroborated := false, acknowledged := false, announced := announced
    reportedActive := false, occurrences := 1, peak := 768, sequence := 4#8 }

/-- A state with a neighbour table and a finding list. -/
def holding (s : State) (l : List Entry) (r : List Finding) : State :=
  (s.modTable fun t => { t with entries := l }).modReport fun x => { x with findings := r }

/-- A state with a transmit queue and an attempt on the line. -/
def sending (s : State) (q : List Queued) (t : Option Transmission) : State :=
  s.modLine fun l => { l with queue := q, transmission := t, tracking := .telegram (some 2) }

/-- An attempt of a telegram that stands in the queue. -/
def attempt (o : Outgoing) : Transmission :=
  { telegram := o, chars := [], restartFlag := true, status := some .confirmed, inQueue := true }

/-- The characters of a telegram, undamaged. -/
def chars (kind source destination : Nat) (body : List Byte) : List Byte := sealed (headed kind source destination body)

/-- A digest of 0 to 4 zones and a holder list. -/
def digest (zones holders : List Nat) : Digest :=
  ⟨summary 3#8 700, false, zones.length, holders.length, zones, holders⟩

/-- The next state of a command that answers one. -/
def next (c : Instr) (s : State) : State :=
  match exec c s with
  | .next t => t
  | .fault _ => s
  | .refused _ => s

/-- An image of a head of bytes, zeros, and the word that makes its sum 0. -/
def image (head : List Byte) : List Byte :=
  head ++ List.replicate (126 - head.length) 0#8 ++ pairBytes (65536 - imageSum head % 65536)

/-- The image of section 10.7: version 3, scan tap 7, period tap 2, its roles, scan list, zones, and of the parameters
closed_band 240 and open_band 150, fb_tol 900. -/
def image107 : List Byte := image
  ([0x03, 7, 2, 1, 2, 3, 4, 5, 6, 7, 0, 3, 12, 9, 2, 0, 1, 11, 3, 4, 8, 5, 6, 0, 0, 0, 0, 0, 0, 0, 40, 2, 0, 0, 112, 5,
    41, 0, 0, 31, 0, 154, 0, 154, 3, 132, 0, 240, 0, 150].map (BitVec.ofNat 8))

/-- A RUNNING station with a confirmed pair and its record. -/
def fighting : State := holding up [entry 23 800 .confirmed .holder] [record (pairKey 23) .confirmed true]

/-! ### Well-formedness: one ill-formed term for each check -/

/-- 127 bytes are no image. -/
theorem test_image_of_127_bytes_is_ill_formed :
    (Instr.imageReadComplete (List.replicate 127 0#8)).wellFormed = false := by decide

/-- Six characters are no telegram of body length 2. -/
theorem test_short_telegram_is_ill_formed :
    (Instr.receiveClaim [2#8, 9#8, 17#8, 2#8, 0#8, 0#8]).wellFormed = false := by decide

/-- A body length above 40 is no telegram that can be followed. -/
theorem test_long_telegram_is_ill_formed :
    (Instr.receiveDigest (chars 1 9 63 (List.replicate 41 0#8))).wellFormed = false := by decide

/-- An undamaged CLAIM is no QUERY; damaged, its kind is not known. -/
theorem test_other_kind_is_ill_formed :
    (Instr.receiveQuery (chars 2 9 17 [1#8, 1#8])).wellFormed = false
      ∧ (Instr.receiveQuery ((chars 2 9 17 [1#8, 1#8]).set 5 0#8)).wellFormed = true := by decide

/-- A COLD request is no WARM one, nor the other way about; a value of 3, which R149 leaves out, comes under either. -/
theorem test_other_restart_value_is_ill_formed :
    (Instr.restartWarm (chars 7 60 17 [2#8]) 0).wellFormed = false
      ∧ (Instr.restartCold (chars 7 60 17 [2#8]) 0).wellFormed = true
      ∧ (Instr.restartCold (chars 7 60 17 [1#8]) 0).wellFormed = false
      ∧ (Instr.restartCold (chars 7 60 17 [3#8]) 0).wellFormed = true := by decide

/-! ### The spec's worked cases -/

/-- Section 1.8: code 4090 at the open sensor is implausible, and 1850 at 1129151 microvolts is not. -/
theorem test_codes : conversionCode 1129151 = 1850 ∧ plausibleCode 1850 = true ∧ plausibleCode 4090 = false
    ∧ plausibleCode 15 = false ∧ plausibleCode 16 = true ∧ plausibleCode 4079 = true := by decide

/-- Section 1.8: the strobe of a scan with FAN and OCC asserted, the OCC reference ASSERTED. -/
theorem test_scan_strobe :
    let t := next (.scanStrobe true true) (up.modAcq fun a => { a with occRef := some true })
    t.acq.active.scansTaken = 1 ∧ t.acq.active.fan = .proven ∧ t.acq.active.occChanged = false
      ∧ t.acq.active.occLast = some true ∧ t.timers = some ⟨0, 256, 65536⟩ := by decide

/-- Section 1.8: the first sample of the scan, MAT at 1850, completes 4 tu after the strobe. -/
theorem test_conversion :
    let t := next (.conversionComplete 1129151) (next (.scanStrobe true true) up)
    t.acq.active.counts.mat = ⟨1850, 1, 0⟩ ∧ t.acq.scan = some ⟨0, 2⟩ ∧ t.timers = some ⟨4, 256, 65536⟩ := by decide

/-- Section 3.4: raw fraction, expected fraction. Section 3.5, rows d, h, i and j: the rounding of halves, the clamp. -/
theorem test_fractions : rawFraction (-150) (-400) = 384 ∧ expectedFraction 154 3072 = 807
    ∧ outdoorFraction (rawFraction 64 (-1024)) = some 0 ∧ outdoorFraction (rawFraction 65 (-1024)) = none
    ∧ rawFraction (-1) (-2048) = 1 ∧ rawFraction (-3) (-2048) = 2 ∧ rawFraction 1 (-2048) = -1 := by decide

/-- A bank whose roles each have 256 samples of one code; DAT has none plausible. -/
def bank (oat rat mat hvc cvc dmc dmf spt : Nat) : Bank :=
  let c := fun n => (⟨256 * n, 256, 0⟩ : RoleCounts)
  { Bank.cleared with
    counts := ⟨c oat, c rat, c mat, ⟨0, 0, 256⟩, c hvc, c cvc, c dmc, c dmf, c spt⟩
    scansTaken := 256, fan := .proven, occLast := some true, reversals := 2 }

/-- Sections 3.4 and 3.13: DAMPER_STUCK and POINT_FAULT(DAT) of the full outcome set. MAT's mean of 1850 stands on 512
expected samples. -/
theorem test_outcomes :
    let b := bank 1600 2000 1850 20 2460 3072 2950 1856
    localVerdict cfg b false ⟨.damperStuck, 0⟩ = .evidence 64
      ∧ localVerdict cfg b false ⟨.coolLeak, 0⟩ = .notAssessable
      ∧ localVerdict cfg b false ⟨.simultHc, 0⟩ = .noEvidence
      ∧ localVerdict cfg b false ⟨.hunting, 0⟩ = .noEvidence
      ∧ localVerdict cfg b false ⟨.pointFault, 4⟩ = .evidence 128 := by decide

/-- Section 3.10: scans 5, 6, 7 and 9 of the hunting trace. -/
theorem test_hunting :
    (Tracker.scanEnd cfg ⟨some 20, some 470, .up, some (-300)⟩) = (⟨none, none, .up, some (-300)⟩, false)
      ∧ (Tracker.scanEnd cfg ⟨some 20, some 580, .up, some (-300)⟩) = (⟨none, none, .down, some (-560)⟩, true)
      ∧ (Tracker.scanEnd cfg ⟨none, some 640, .down, some (-560)⟩) = (⟨none, none, .down, some (-560)⟩, false)
      ∧ (Tracker.scanEnd cfg ⟨some 20, some 500, .down, some (-700)⟩) = (⟨none, none, .up, some (-480)⟩, true) := by
  decide

/-- Section 4.6: periods 4, 12, 19, 39 and 58. -/
theorem test_scores :
    Scored.update .damperStuck (.evidence 64) ⟨192, .clear, none⟩ = ⟨256, .suspect, some (.evidence 64)⟩
      ∧ (Scored.update .damperStuck (.evidence 64) ⟨704, .suspect, none⟩).state = .confirmed
      ∧ (Scored.update .damperStuck (.evidence 64) ⟨992, .confirmed, none⟩).score = 1023
      ∧ Scored.update .damperStuck .noEvidence ⟨415, .confirmed, none⟩ = ⟨383, .recovering, some .noEvidence⟩
      ∧ Scored.update .damperStuck .noEvidence ⟨95, .recovering, none⟩ = ⟨63, .clear, some .noEvidence⟩ := by decide

/-- Section 5.1: what own entry (40, 2) matches. -/
theorem test_zones : [39, 40, 43, 44, 0, 255].map (OwnZone.accepts ⟨40, 2⟩) = [false, true, true, false, false, false] := by
  decide

/-- Section 5.7: the table before step a. -/
def fullTable : List Entry :=
  [aged 1 (entry 5 0 .clear .unheld), entry 9 300 .suspect .unheld, aged 7 (entry 23 0 .clear .unheld),
   aged 1 (entry 31 0 .clear .unheld), aged 1 (entry 12 0 .clear .unheld), aged 2 (entry 44 0 .clear .unheld),
   aged 7 (entry 50 800 .confirmed .holder), entry 58 0 .clear .unheld]

/-- A state whose receive queue holds one digest. -/
def hearing (s : State) (source : Nat) (d : Digest) : State := s.modLine fun l => { l with received := [.digest source d] }

/-- Section 5.7, steps a and b: 27 takes the place of 23, then 33 that of 50, whose record becomes WITHDRAWN. -/
theorem test_eviction :
    let s := holding up fullTable [record (pairKey 50) .confirmed true]
    let a := next .digestTaken (hearing s 27 (digest [41] []))
    let b := next .digestTaken (hearing a 33 (digest [112, 200] []))
    a.table.entries.map Entry.station = [5, 9, 31, 12, 44, 50, 58, 27]
      ∧ b.table.entries.map Entry.station = [5, 9, 31, 12, 44, 58, 27, 33]
      ∧ b.report.findings.map Finding.status = [.withdrawn] ∧ (b.entry 33).map Entry.matchSet = some [2] := by decide

/-- Section 5.7, step c: a full table with no LOST entry refuses 38. -/
theorem test_refusal :
    let s := holding up (fullTable.map (aged 2)) []
    let t := next .digestTaken (hearing s 38 (digest [43] []))
    t.table.saturated = true ∧ t.report.fault = true ∧ t.report.flags.neighbourRefused = true
      ∧ t.table.entries.length = 8 := by decide

/-- Section 5.8: a digest that bears the own number. -/
theorem test_duplicate :
    let t := next .digestTaken (hearing up 17 (digest [] []))
    t.table.duplicateTimer = 4 ∧ t.report.flags.duplicateSeen = true ∧ t.report.fault = true := by decide

/-- Section 6.6, evaluations 7 and 21: a reservation lost in SUSPECT and in CONFIRMED. -/
theorem test_reservation :
    let e := { entry 23 288 .suspect .unheld with lastDigest := summary 31#8 (-700), reservedOwn := 12, reservedPeer := 30 }
    let f := { e with pair := ⟨848, .confirmed, none⟩, reservedPeer := 31 }
    (Entry.evaluate 615 (summary 12#8 820) e).pair = ⟨48, .clear, some (.evidence 48)⟩
      ∧ (Entry.evaluate 615 (summary 12#8 820) e).reservedPeer = 31
      ∧ (Entry.evaluate 615 (summary 13#8 820) f).pair = ⟨848, .confirmed, some .notAssessable⟩ := by decide

/-- Section 8.12, step 1: a claim loses contention. Steps 3 and 5: it earns REPEAT, then CONCUR. -/
theorem test_claim_attempts :
    let e := entry 23 768 .confirmed .claiming
    let s := sending (holding up [e] [record (pairKey 23) .confirmed false]) [⟨.claim 23, 0⟩] (some (attempt (.claim 23)))
    let a := next .contentionLoss s
    let b := next (.attemptOutcome true false false) s
    let t := next (.attemptOutcome false false true) s
    (a.entry 23).map Entry.claimAttempts = some 1 ∧ a.line.window = 16
      ∧ b.line.pauses = [.claim 23] ∧ b.line.window = 8
      ∧ (t.entry 23).map Entry.ownership = some .holder ∧ t.line.queue = []
      ∧ t.report.findings.map Finding.corroborated = [true] := by decide

/-- Section 8.12, step 5, seen from station 23: SUSPECT and UNHELD, the epochs equal, so CONCUR and FOLLOWER. Another
epoch earns STALE. -/
theorem test_claim_answered :
    let s := holding up [entry 23 300 .suspect .unheld] []
    let t := next (.receiveClaim (chars 2 23 17 [3#8, 0#8])) s
    t.line.mark = some .concur ∧ (t.entry 23).map Entry.ownership = some .follower
      ∧ (next (.receiveClaim (chars 2 23 17 [3#8, 1#8])) s).line.mark = some .stale := by decide

/-- Section 9.9, steps 5 and 6: no HEAT_LEAK record, so no mark; a WITHDRAWN announced record is acknowledged and leaves. -/
theorem test_acknowledge :
    let s := holding up [] [record (pairKey 23) .withdrawn true]
    let a := next (.acknowledge (chars 6 60 17 [3#8, 0#8])) s
    let b := next (.acknowledge (chars 6 60 17 [7#8, 23#8])) s
    a.line.mark = none ∧ a.report.findings.length = 1 ∧ b.line.mark = some .concur ∧ b.report.findings = [] := by decide

/-- Section 9.9, step 8: a STATUS query copies the flags and clears them; TELEGRAM_DISCARDED is bit 4 (R151). -/
theorem test_status_query :
    let s := (up.modLine fun l => { l with received := [.query 60 1 0] }).flagTelegramDiscarded
    let t := next .queryStatus s
    t.report.flags = .clear ∧ t.line.queue = [⟨.reply 60 1 0 16#8, 0⟩] := by decide

/-- Section 10.7: taps, parameters, roles, scan list and zones of the image. -/
theorem test_image_configuration :
    let c := loadConfiguration image107
    c.scanTap = 4 ∧ c.periodTap = 2 ∧ c.params.closedBand = 205 ∧ c.params.openBand = 246
      ∧ c.scanList = [2, 0, 1, 3, 4, 5, 6]
      ∧ c.roles = [some .oat, some .rat, some .mat, some .dat, some .hvc, some .cvc, some .dmc, none, none, none]
      ∧ c.zones = [some ⟨40, 2⟩, none, none, some ⟨41, 0⟩] := by decide

/-- Section 10.7: after entry DAMPER_STUCK is active, POINT_FAULT(DMF) and POINT_FAULT(SPT) are not (R178). -/
theorem test_image_activity :
    let t := next (.imageReadComplete image107) booting
    t.running = true ∧ t.line.restartPending = true ∧ t.timers = some ⟨0, 0, 65536⟩
      ∧ (t.locals.filter fun x => !x.active).map LocalCandidate.key = [⟨.pointFault, 8⟩, ⟨.pointFault, 9⟩] := by decide

/-- R172, R173: power-on with straps 17, and with straps 60. -/
theorem test_power_on : (next (.powerOn 17) .reset).startingUp = true ∧ (next (.powerOn 17) .reset).own = 17
    ∧ (next (.powerOn 60) .reset).loader.halt = .strapInvalid := by decide

/-- R24: an evaluation over no entries lasts 20 tu. R33, cause 5: the first one raises the epoch. -/
theorem test_period :
    let t := next .periodExpiry (up.modEval fun e => { e with firstEvaluation := true })
    t.eval.inFlight = some 65556 ∧ t.eval.sequence = 1
      ∧ (next .evaluationCompletion t).eval.epoch = 1
      ∧ (next .evaluationCompletion t).line.queue = [⟨.digest, 0⟩] := by decide

/-- R182: a warm restart in RUNNING drives CONCUR and stays RUNNING; R180: a damaged request earns REPEAT (R155). -/
theorem test_restart_warm :
    let c := chars 7 61 17 [1#8]
    (next (.restartWarm c 0) up).loader.cause = .warmRequest ∧ (next (.restartWarm c 0) up).running = true
      ∧ (next (.restartWarm (c.set 4 9#8) 0) up).line.mark = some .repeatMark := by decide

/-- R181: a cold restart enters STARTING. -/
theorem test_restart_cold :
    (next (.restartCold (chars 7 61 17 [2#8]) 17) up).startingUp = true
      ∧ (next (.restartCold (chars 7 61 17 [2#8]) 17) up).loader.cause = .coldRequest := by decide

/-- R19, R172: the RESET line asserted and released. -/
theorem test_reset_line :
    let a := next .resetLineAsserted fighting
    a.running = false ∧ a.report.findings = [] ∧ (next (.resetLineReleased 17) a).startingUp = true
      ∧ (next (.resetLineReleased 17) a).loader.cause = .resetLine := by decide

/-- R174: a silent memory halts the station, FAULT asserted (R168). -/
theorem test_memory_silent :
    (next .memorySilent booting).loader.halt = .memorySilent ∧ (next .memorySilent booting).report.fault = true := by decide

/-- R139, R142: 11 recessive bit times, then a start bit; a framing fault (R138). -/
theorem test_line :
    let a := next .lineIdle up
    let b := next .startBitRead a
    a.line.idle = true ∧ b.line.idle = false ∧ b.line.tracking = .telegram none
      ∧ (next .leaveTelegram b).line.tracking = .searching := by decide

/-- R142: a deferral ends the backoff and counts nothing. R143: a line fault on transmit counts an attempt. -/
theorem test_defer :
    (next .defer (up.modLine fun l => { l with idle := true, backoff := some 3, window := 16 })).line.window = 16
      ∧ (let t := next .lineFaultOnTransmit (sending up [⟨.digest, 0⟩] (some (attempt .digest)))
         t.line.window = 16 ∧ t.line.queue = [⟨.digest, 1⟩] ∧ t.line.tracking = .searching) := by decide

/-- Section 8.12, steps 3 and 4: a claim of 8 characters, and station 31's digest (1 zone, 2 holders) of 15. -/
theorem test_backoff_end :
    let s := fighting.modLine fun l => { l with idle := true, backoff := some 0, queue := [⟨.claim 23, 0⟩] }
    ((next .backoffEnd s).line.transmission.map fun t => t.chars.length) = some 8
      ∧ (chars 1 31 63 (digestBody (summary 0 0) false [41] [9, 17])).length = 15 := by decide

/-- R145: the pause begun first ends first. -/
theorem test_repeat_pause :
    (next .repeatPauseEnd (up.modLine fun l => { l with pauses := [.claim 23, .digest] })).line.pauses = [.digest] := by decide

/-- R155: during an evaluation a digest and a query join the receive queue; a second query is refused with REPEAT. -/
theorem test_receive :
    let a := next (.receiveDigest (chars 1 9 63 (digestBody (summary 3 700) false [41] []))) busy
    let b := next (.receiveQuery (chars 4 60 17 [1#8, 0#8])) a
    let c := next (.receiveQuery (chars 4 61 17 [2#8, 0#8])) b
    b.line.received = [.digest 9 (digest [41] []), .query 60 1 0] ∧ b.line.mark = none
      ∧ c.line.received = b.line.received ∧ c.line.mark = some .repeatMark := by decide

/-- R156: outside an evaluation a digest that arrives is taken at once, and a query answered at once. -/
theorem test_taken_at_once :
    let a := next (.receiveDigest (chars 1 9 63 (digestBody (summary 3 700) false [41] [17]))) up
    let b := next (.receiveQuery (chars 4 60 17 [3#8, 0#8])) a
    a.line.received = [] ∧ a.table.entries.map Entry.station = [9] ∧ a.table.entries.map Entry.ownership = [.follower]
      ∧ b.line.received = [] ∧ b.line.queue = [⟨.reply 60 3 0 0, 0⟩] := by decide

/-- R155, second row: an ACKNOWLEDGE of kind 0 or 8 draws no mark during an evaluation, one of kind 7 draws REPEAT. -/
theorem test_acknowledge_of_no_kind :
    [0#8, 7#8, 8#8].map (fun k => (next (.acknowledge (chars 6 60 17 [k, 23#8])) busy).line.mark)
      = [none, some .repeatMark, none] := by decide

/-- R155: a FINDING and a REPLY are discarded without a mark. -/
theorem test_discarded :
    (next (.receiveFinding (chars 3 9 63 (List.replicate 8 0#8))) up).line = { up.line with tracking := .afterWindow }
      ∧ (next (.receiveReply (chars 5 9 60 (List.replicate 14 0#8))) up).report = up.report := by decide

/-- R152: 5 records are given four at a time; a HALTED station answers no FINDINGS query (R170). -/
theorem test_lists :
    let five := [1, 2, 3, 4, 5].map fun p => record (pairKey p) .withdrawn true
    (findingsBody (holding up [] five) 0).length = 3 + 9 * 4 ∧ (findingsBody (holding up [] five) 4).length = 3 + 9
      ∧ (next .queryFindings (dead.modLine fun l => { l with received := [.query 60 2 0] })).line.queue = []
      ∧ (next .queryNeighbours (up.modLine fun l => { l with received := [.query 60 3 0] })).line.queue
          = [⟨.reply 60 3 0 0, 0⟩] := by decide

/-- spec/opcode_table.json gives no row any bits, so no word spells a command. -/
theorem test_no_word_spells_a_command : decodeTableWord 8 0 = none ∧ State.reset.withFetchWord 8 1 = .reset := by decide

/-! ### Witnesses: the hypotheses of each obligation, met by a concrete state, clause by clause -/

/-- An undamaged telegram of a service terminal or a station to station 17. -/
theorem carries (kind source destination : Nat) (body : List Byte)
    (h : framed (chars kind source destination body) = true ∧ checkPasses (chars kind source destination body) = true
      ∧ readTelegram (chars kind source destination body) = ⟨kind, source, destination, body⟩) :
    Carries (chars kind source destination body) ⟨kind, source, destination, body⟩ := ⟨h.1, h.2.1, h.2.2⟩

/-- The RESET line released, asserted with a supply, asserted without one. -/
theorem witness_PowerAndResetLine :
    up.loader.resetAsserted = false
      ∧ (let s := up.modLoader fun l => { l with resetAsserted := true }
         s.loader.resetAsserted = true ∧ s.loader.supply = true)
      ∧ (let s := State.reset.modLoader fun l => { l with resetAsserted := true }
         s.loader.resetAsserted = true ∧ s.loader.supply = false) := by decide

/-- A sum of 1 above a multiple of 65,536; another version with a good sum; an empty scan list; a good image. -/
theorem witness_ImageRead :
    booting.startingUp = true
      ∧ (let i := image107.set 127 0#8; i.length = 128 ∧ imageSum i % 65536 ≠ 0)
      ∧ (let i := image [4#8]; i.length = 128 ∧ imageSum i % 65536 = 0 ∧ byteAt i 1 ≠ 3)
      ∧ (let i := image [3#8]; i.length = 128 ∧ imageSum i % 65536 = 0 ∧ byteAt i 1 = 3
          ∧ (loadConfiguration i).scanList = [])
      ∧ image107.length = 128 ∧ imageSum image107 % 65536 = 0 ∧ byteAt image107 1 = 3
      ∧ (loadConfiguration image107).scanList ≠ [] := by decide

/-- Values below, above and at both ends of a range; an open_band at closed_band and one above it. -/
theorem witness_LoadedValuesInRange :
    byteAt image107 2 > 4 ∧ byteAt image107 3 ≤ 5
      ∧ pairAt image107 39 < 32 ∧ pairAt image107 45 > 819 ∧ pairAt image107 47 > 205
      ∧ (let i := image (image107.take 38 ++ [0#8, 32#8]); pairAt i 39 = 32 ∧ (loadConfiguration i).params.minSpread = 32)
      ∧ (let i := image (image107.take 46 ++ [0#8, 41#8, 0#8, 41#8])
         pairAt i 49 = 41 ∧ (loadConfiguration i).params.openBand = 82)
      ∧ (let i := image (image107.take 46 ++ [0#8, 41#8, 0#8, 42#8])
         pairAt i 49 = 42 ∧ (loadConfiguration i).params.openBand = 42) := by decide

/-- A role kept by the lowest of two channels, a role lost for want of a scan list entry, a repeated entry; own zone
entries at both ends of their ranges and past them; a routing word. -/
theorem witness_LoadedRolesAndScanList :
    (let i := image ([1, 3, 254, 0, 255, 0, 7, 4].foldl (fun l b => l ++ [BitVec.ofNat 8 b]) (List.replicate 30 0#8)
        ++ List.replicate 24 0#8 ++ [0x34#8, 0x01#8])
     (loadConfiguration i).zones = [some ⟨1, 3⟩, some ⟨254, 0⟩, none, none] ∧ (loadConfiguration i).routing = 0x3401#16) ∧
    (loadConfiguration image107).roleOf 2 = some .mat ∧ (loadConfiguration image107).roleOf 8 = none
      ∧ (let c := loadConfiguration (image ([3, 0, 0, 1, 2, 0, 0, 0, 0, 0, 0, 0, 0, 2, 0, 0].map (BitVec.ofNat 8)))
         c.roleOf 0 = some .oat ∧ c.roleOf 1 = none ∧ c.scanList = [0, 0] ∧ c.multiplicity .oat = 2) := by decide

/-- A COLD request at a RUNNING station and a WARM one at a HALTED station, from terminals 60 and 62. -/
theorem witness_RestartEntersStarting :
    (up.listening = true ∧ up.numbered ∧ up.evaluating = false
      ∧ Carries (chars 7 60 17 [2#8]) ⟨7, 60, up.own, [2#8]⟩)
    ∧ (dead.listening = true ∧ dead.halted = true ∧ dead.numbered ∧ dead.evaluating = false
      ∧ Carries (chars 7 62 17 [1#8]) ⟨7, 62, dead.own, [1#8]⟩) :=
  ⟨⟨by decide, by decide, by decide, carries _ _ _ _ (by decide)⟩,
   ⟨by decide, by decide, by decide, by decide, carries _ _ _ _ (by decide)⟩⟩

/-- A warm restart request, a CROSS_FIGHT record standing. -/
theorem witness_RestartWarmFromRunning :
    fighting.listening = true ∧ fighting.running = true ∧ fighting.numbered ∧ fighting.evaluating = false
      ∧ fighting.RecordsMatch ∧ Carries (chars 7 60 17 [1#8]) ⟨7, 60, fighting.own, [1#8]⟩ :=
  ⟨by decide, by decide, by decide, by decide, by decide, carries _ _ _ _ (by decide)⟩

/-- Voltages at both ends of the span and inside it; the codes about the two bounds; an implausible sample. -/
theorem witness_CodesAndPlausibility :
    conversionCode 2500000 = 4095 ∧ conversionCode 0 = 0 ∧ conversionCode 2499999 = 4095
      ∧ plausibleCode 15 = false ∧ plausibleCode 4080 = false
      ∧ (⟨3, 4090, false, false⟩ : Sample).plausible = false := by decide

/-- No scan in progress, before and at an expiry; a scan in progress at the instant before its last completion. -/
theorem witness_ScanStrobe :
    (up.running = true ∧ up.timers = some ⟨0, 0, 65536⟩ ∧ up.cfg.scanInterval ∣ 0 ∧ up.acq.scan = none
      ∧ up.acq.nextScan = none)
    ∧ (let s := up.modTimers fun _ => some ⟨65536, 65536, 65536⟩
       s.running = true ∧ s.timers = some ⟨65536, 65536, 65536⟩ ∧ s.cfg.scanInterval ∣ 65536 ∧ s.acq.scan = none)
    ∧ (let s := up.modAcq fun a => { a with scan := some ⟨217, 10⟩ }
       let s := s.modTimers fun _ => some ⟨256, 256, 65536⟩
       s.running = true ∧ s.cfg.scanInterval ∣ 256 ∧ s.acq.scan = some ⟨217, 10⟩
         ∧ 256 < 217 + 4 * s.cfg.scanList.length) := by decide

/-- A last conversion due at the next strobe; a strobe due at the next expiry. -/
theorem witness_OrdersAtOneInstant :
    (let s := up.modAcq fun a => { a with scan := some ⟨216, 10⟩ }
     let s := s.modTimers fun _ => some ⟨252, 256, 65536⟩
     s.running = true ∧ s.timers = some ⟨252, 256, 65536⟩ ∧ s.cfg.scanInterval ∣ 256 ∧ s.acq.scan = some ⟨216, 10⟩
       ∧ s.acq.nextScan = none ∧ 10 = s.cfg.scanList.length ∧ 216 + 4 * 10 = 256)
    ∧ (let s := up.modTimers fun _ => some ⟨65400, 65536, 65536⟩
       s.running = true ∧ s.evaluating = false ∧ s.timers = some ⟨65400, 65536, 65536⟩ ∧ s.cfg.scanInterval ∣ 65536
         ∧ s.cfg.periodLength ∣ 65536) := by decide

/-- The first position outside an evaluation; during one, a FIFO of 11 and one of 12, and the last position. -/
theorem witness_ConversionWithinScan :
    (let s := up.modAcq fun a => { a with scan := some ⟨0, 1⟩ }
     s.running = true ∧ s.evaluating = false ∧ s.timers = some ⟨0, 0, 65536⟩ ∧ s.acq.scan = some ⟨0, 1⟩ ∧ s.acq.fifo = []
       ∧ 1 < s.cfg.scanList.length ∧ s.cfg.roleOf (s.cfg.scanList.getD 0 0) = some .mat)
    ∧ (∀ n ∈ [11, 12],
       let s := busy.modAcq fun a => { a with scan := some ⟨0, 10⟩, fifo := List.replicate n ⟨0, 1600, true, false⟩ }
       s.running = true ∧ s.evaluating = true ∧ s.acq.scan = some ⟨0, 10⟩ ∧ s.acq.fifo.length ≤ 12) := by decide

/-- The scan's last position, SPT; once with both valve codes collected and once with none. -/
theorem witness_ScanEndDrained :
    ∀ h ∈ [none, some 20],
      let s := up.modAcq fun a => { a with scan := some ⟨0, 10⟩, tracker := { a.tracker with hvc := h, cvc := h } }
      s.running = true ∧ s.evaluating = false ∧ s.timers = some ⟨0, 0, 65536⟩ ∧ s.acq.scan = some ⟨0, 10⟩
        ∧ s.acq.nextScan = none ∧ s.acq.fifo = [] ∧ 10 = s.cfg.scanList.length
        ∧ s.cfg.roleOf (s.cfg.scanList.getD 9 0) = some .spt
        ∧ ((s.acq.tracker.collect (some .spt) (formSample s.cfg 10 0)).effort s.cfg = none ↔ h = none) := by decide

/-- A scan skipped for want of a code, and one with an unmapped valve; a scan effort, with no extreme and with one in
each direction, at the dead band and past it. -/
theorem witness_TrackerTurns :
    (cfg.mapped .hvc = true ∧ (⟨none, some 470, .up, some 0⟩ : Tracker).hvc = none)
      ∧ (let c := { cfg with roles := [none, none, none, none, none, some .cvc] }
         c.mapped .hvc = false ∧ c.mapped .cvc = true)
      ∧ (⟨some 20, some 470, .none, none⟩ : Tracker).effort cfg = some (-450)
      ∧ (⟨some 20, some 470, .up, some (-245)⟩ : Tracker).effort cfg = some (-450) ∧ (-245 : Int) - -450 = 205
      ∧ (⟨some 20, some 470, .up, some (-244)⟩ : Tracker).effort cfg = some (-450)
      ∧ (⟨some 20, some 470, .down, some (-656)⟩ : Tracker).effort cfg = some (-450) := by decide

/-- An expiry that is due, over entries at ages 3 (a follower), 238 and 239. -/
theorem witness_PeriodExpiry :
    let s := holding up [aged 3 (entry 23 800 .confirmed .follower), aged 238 (entry 31 0 .clear .unheld),
      aged 239 (entry 44 0 .clear .unheld)] [record (pairKey 23) .confirmed true]
    s.running = true ∧ s.evaluating = false ∧ s.timers = some ⟨0, 0, 65536⟩ ∧ s.cfg.periodLength ∣ 65536
      ∧ s.StationsDistinct
      ∧ (let s := holding up [aged 239 (entry 44 800 .confirmed .holder)] [record (pairKey 44) .confirmed true]
         s.StationsDistinct ∧ ∃ e ∈ s.table.entries, e.pair.state.confirmedOrRecovering = true ∧ 239 ≤ e.age) := by decide

/-- A role with a mean: 256 samples at code 16. -/
theorem witness_ReliabilityAndMean :
    let b := bank 16 16 16 16 16 16 16 16
    meanOf cfg b .oat = some 16 ∧ 0 < (b.counts.get .oat).valid
      ∧ 16 * (b.counts.get .oat).valid ≤ (b.counts.get .oat).sum
      ∧ (b.counts.get .oat).sum ≤ 4079 * (b.counts.get .oat).valid := by decide

/-- An evaluation in flight of a period with FAN proven, both valves reliable and the epoch unchanged. -/
def busyFresh : State :=
  busy.modAcq fun a => { a with frozen := bank 1600 2000 1850 20 20 3072 2950 1856 }

/-- A RECOVERING candidate at 90 that is CLAIMING, the efforts not opposite. -/
def releasing : Entry := entry 23 90 .recovering .claiming

/-- An evaluation in flight whose completion is due; a digest that bears the own number; each outcome held for a claim of
a candidate that stays, at 14 attempts and at 15, and for one that the evaluation releases. -/
theorem witness_EvaluationCompletion :
    (busy.running = true ∧ busy.timers = some ⟨0, 0, 65536⟩ ∧ busy.eval.inFlight = some 40 ∧ busy.evaluating = true)
    ∧ Received.digest busy.own (digest [] []) ∈ (hearing busy 17 (digest [] [])).line.received
    ∧ (busy.report.findings.map Finding.key).Nodup
    ∧ (∀ o ∈ [AttemptEnd.concur, .noMark, .stale, .repeatMark, .contentionLoss], ∀ n ∈ [14, 15],
       let e := { entry 23 800 .confirmed .claiming with claimAttempts := n }
       let s := (holding busy [e] [record (pairKey 23) .confirmed true]).modLine fun l =>
         { l with queue := [⟨.claim 23, n⟩], held := [⟨23, o⟩] }
       s.running = true ∧ s.evaluating = true ∧ s.StationsDistinct ∧ s.entry 23 = some e ∧ s.line.received = []
         ∧ (∀ f ∈ s.report.findings, f.status.reports e.pair.state = true) ∧ s.RecordsMatch
         ∧ (∀ f ∈ s.table.entries, f.ownership = .claiming → f.station = 23)
         ∧ (next .evaluationCompletion s).eval.summary.any (fun own =>
             (e.evaluate s.cfg.params.fightEffort own).pair.state.confirmedOrRecovering) = true)
    ∧ (let e := releasing
       let s := (holding busyFresh [e] [record (pairKey 23) .recovering true]).modLine fun l =>
         { l with queue := [⟨.claim 23, 0⟩], held := [⟨23, .concur⟩] }
       s.StationsDistinct ∧ s.entry 23 = some e ∧ s.line.received = []
         ∧ (next .evaluationCompletion s).eval.summary.any (fun own =>
             (e.evaluate s.cfg.params.fightEffort own).pair.state == .clear) = true) := by decide

/-- A spread of 96, one that divides the numerator, and the spread at which halves arise. -/
theorem witness_RawFraction :
    (96 : Int) ≠ 0 ∧ (-400 : Int) ∣ -150 * 1024 ∧ rawFraction (-150) (-400) ≠ 0
      ∧ 2 * (rawFraction (-1) (-2048) * -2048 - -1 * 1024).natAbs = (-2048 : Int).natAbs
      ∧ ((-2048 : Int).natAbs = 2048 ∧ (-1 : Int) % 2 = 1) := by decide

/-- No outdoor sensor and no feedback: neither damper path. -/
theorem witness_DamperOutcome :
    let c := { cfg with roles := [none, some .rat, some .mat, none, none, none, some .dmc, none, none, none] }
    (c.mapped .oat && c.mapped .rat && c.mapped .mat) = false ∧ c.mapped .dmf = false := by decide

/-- Path A flags at 384 against 807 and clears with a tolerance of 423; path F clears at 122 and flags at 121. -/
theorem witness_DamperPaths :
    let b := bank 1600 2000 1850 20 20 3072 2950 1856
    cfg.params.oaMin ≤ 512 ∧ pathA cfg b = .flags ∧ pathA { cfg with params := { cfg.params with damperTol := 423 } } b = .clears
      ∧ pathF cfg b = .clears ∧ pathF { cfg with params := { cfg.params with fbTol := 121 } } b = .flags
      ∧ pathA cfg (bank 1920 2000 1850 20 20 3072 2950 1856) = .blind := by decide

/-- Both leakage candidates judged, the valves at 20 and at closed_band; section 3.7, periods 2, 3 and 5. -/
theorem witness_LeakageOutcomes :
    let b := fun mat dat => { bank 1600 2000 mat 20 41 20 20 1856 with
      counts := { (bank 1600 2000 mat 20 41 20 20 1856).counts with dat := ⟨256 * dat, 256, 0⟩ } }
    (∀ p ∈ [(2000, 1936), (2000, 1968), (1980, 2080)],
        reliable cfg (b p.1 p.2) .mat = true ∧ reliable cfg (b p.1 p.2) .dat = true ∧ (b p.1 p.2).fan = .proven
          ∧ meanOf cfg (b p.1 p.2) .hvc = some 20 ∧ meanOf cfg (b p.1 p.2) .cvc = some 41)
      ∧ cfg.mapped .cvc = true ∧ cfg.mapped .hvc = true
      ∧ coolLeakVerdict cfg (b 2000 1936) = .evidence 48 ∧ coolLeakVerdict cfg (b 2000 1968) = .noEvidence
      ∧ heatLeakVerdict cfg (b 1980 2080) = .evidence 48 := by decide

/-- Both valves above open_band, then one at it; reversals at hunt_reversals and one below; a point at a quarter. -/
theorem witness_ValveAndPointOutcomes :
    simultVerdict cfg (bank 1600 2000 1850 206 206 20 20 1856) false = .evidence 64
      ∧ simultVerdict cfg (bank 1600 2000 1850 205 206 20 20 1856) false = .noEvidence
      ∧ (let b := bank 1600 2000 1850 206 206 20 20 1856
         huntingVerdict cfg { b with reversals := 6 } false = .evidence 48
           ∧ huntingVerdict cfg { b with reversals := 5 } false = .noEvidence
           ∧ pointVerdict cfg { b with counts := { b.counts with oat := ⟨0, 192, 64⟩ } } .oat = .evidence 128
           ∧ pointVerdict cfg { b with counts := { b.counts with oat := ⟨0, 193, 64⟩ } } .oat = .noEvidence) := by decide

/-- Each outcome from each state, at its thresholds. -/
theorem witness_ScoresGainsAndDecays :
    (⟨192, .clear, none⟩ : Scored).state = .clear ∧ nextScore .damperStuck (.evidence 64) 192 = 256
      ∧ nextScore .damperStuck .noEvidence 416 = 384 ∧ nextScore .damperStuck .noEvidence 96 = 64
      ∧ nextScore .damperStuck .notAssessable 768 = 768
      ∧ localVerdict cfg (bank 1600 2000 1850 20 2460 3072 2950 1856) false ⟨.damperStuck, 0⟩ = .evidence 64
      ∧ pairVerdict 615 (summary 0 (-615)) false { entry 23 0 .clear .unheld with lastDigest := summary 3 615 }
          = .evidence 48 := by decide

/-- An evaluation in flight, DAMPER_STUCK active and SUSPECT at 704, the damper flagging: it confirms at 768. -/
def suspecting : State :=
  let s := busy.modAcq fun a => { a with frozen := bank 1600 2000 1850 20 2460 3072 2950 1856 }
  s.modLocals fun l => l.map fun x =>
    if x.key.kind == .damperStuck then { x with active := true, scored := ⟨704, .suspect, none⟩ } else x

/-- An evaluation in flight over three POINT_FAULT candidates with their records, none assessed as evidence: one stays
CONFIRMED at 800 less 64, one falls from 448 to 384, one from 128 to 64. -/
def decaying : State :=
  let l : List (Key × CandState × Nat × RecordStatus) :=
    [(⟨.pointFault, 1⟩, .confirmed, 800, .confirmed), (⟨.pointFault, 2⟩, .confirmed, 448, .confirmed),
     (⟨.pointFault, 3⟩, .recovering, 128, .recovering)]
  (holding busy [] (l.map fun x => record x.1 x.2.2.2 true)).modLocals fun c => c.map fun y =>
    match l.find? fun x => x.1 == y.key with
    | none => y
    | some x => { y with active := true, scored := ⟨x.2.2.1, x.2.1, none⟩ }

/-- R160: what the completion makes of them and of their records. -/
theorem test_record_status :
    (next .evaluationCompletion decaying).report.findings.map (fun f => (f.status, f.announced, f.peak))
      = [(.confirmed, true, 768), (.recovering, true, 768), (.retired, false, 768)] := by decide

/-- A local candidate that confirms at the completion, with no record of its key and with a RETIRED one; active ones with
their records, the list having room. -/
theorem witness_LocalCandidatesScored :
    (decaying.running = true ∧ decaying.evaluating = true ∧ decaying.ListBounded
      ∧ (∀ f ∈ decaying.report.findings, f.status.isActive = true
          ∧ ∃ x ∈ decaying.locals, x.active = true ∧ f.key = x.key)
      ∧ decaying.report.findings.length + decaying.mayConfirm ≤ 24) ∧
    suspecting.running = true ∧ suspecting.evaluating = true ∧ suspecting.ListBounded
      ∧ suspecting.record ⟨.damperStuck, 0⟩ = none
      ∧ (let s := holding suspecting [] [record ⟨.damperStuck, 0⟩ .retired true]
         s.ListBounded ∧ (s.record ⟨.damperStuck, 0⟩).isSome = true
           ∧ s.report.findings.length + s.locals.countP (fun y => y.scored.state == .suspect) ≤ 25)
      ∧ (⟨⟨.damperStuck, 0⟩, true, ⟨704, .suspect, none⟩⟩ : LocalCandidate) ∈ suspecting.locals
      ∧ 768 ≤ nextScore .damperStuck
          (localVerdict suspecting.cfg suspecting.acq.frozen
            (next .evaluationCompletion suspecting).eval.epochChanged ⟨.damperStuck, 0⟩) 704 :=
  ⟨⟨by decide, by decide, by decide, by decide, by decide⟩, by decide⟩

/-- Efforts of one sign, and one inside the band. -/
theorem witness_OppositeEfforts : (205 : Nat) ≤ 615 ∧ (0 : Int) < 4079 * 615 ∧ (614 : Int).natAbs < 615 := by decide

/-- An assessable entry at age 1 with opposite efforts, with others, and one at age 2. -/
theorem witness_PairOutcome :
    let own := summary 0 (-700)
    let e := aged 1 (entry 23 0 .clear .unheld)
    (e.age ≤ 1 ∧ own.effortValid = true ∧ e.lastDigest.effortValid = true ∧ own.fanProven = true
        ∧ e.lastDigest.fanProven = true)
      ∧ opposite 615 own.effort e.lastDigest.effort = true ∧ opposite 701 own.effort e.lastDigest.effort = false
      ∧ ¬(aged 2 e).age ≤ 1 := by decide

/-- A reservation that holds, one lost in CONFIRMED and one lost in SUSPECT, all at age 1. -/
theorem witness_ReservationCheck :
    let own := summary 0 (-700)
    let e := aged 1 (entry 23 800 .confirmed .holder)
    let f := { aged 1 (entry 23 300 .suspect .unheld) with reservedOwn := 9 }
    e.reservedOwn = own.epoch ∧ e.reservedPeer = e.lastDigest.epoch
      ∧ ({ e with reservedOwn := 9 } : Entry).reservedOwn ≠ own.epoch ∧ e.pair.state.confirmedOrRecovering = true
      ∧ f.age ≤ 1 ∧ f.reservedOwn ≠ own.epoch ∧ f.pair.state.confirmedOrRecovering = false := by decide

/-- The clause of `QueueLawful` on claims, from a check that runs through the queue. -/
theorem claims_have_entries {s : State}
    (h : ∀ q ∈ s.line.queue, q.telegram = .digest ∨ ∃ e ∈ s.table.entries, q.telegram = .claim e.station) :
    ∀ q ∈ s.line.queue, ∀ p, q.telegram = .claim p → ∃ e ∈ s.table.entries, e.station = p := by
  intro q hq p hp
  rcases h q hq with hd | ⟨e, he, hc⟩
  · rw [hp] at hd
    cases hd
  · rw [hp] at hc
    cases hc
    exact ⟨e, he, rfl⟩

/-- Pairs that keep R158: one that confirms, its old record RETIRED, and FOLLOWER, CONFIRMED and RECOVERING ones. -/
theorem witness_PairCandidatesScored_records :
    let s := holding busy
      [entry 23 1000 .suspect .unheld, entry 31 800 .confirmed .follower, aged 2 (entry 44 90 .recovering .holder)]
      [record (pairKey 23) .retired true, record (pairKey 31) .confirmed true, record (pairKey 44) .recovering true]
    s.running = true ∧ s.evaluating = true ∧ s.QueueLawful ∧ s.line.received = [] ∧ s.line.held = [] ∧ s.ListBounded
      ∧ s.report.findings.length + s.mayConfirm ≤ 24 :=
  ⟨by decide, by decide, ⟨by decide, by decide, by decide, by decide, claims_have_entries (by decide), by decide, by decide⟩,
   by decide, by decide, by decide, by decide⟩

/-- R159, R160: a SUSPECT candidate at 1000 that is not assessed confirms: UNHELD, its record is made with holder SELF;
FOLLOWER, with the partner; both are announced. -/
theorem test_pair_record :
    [Ownership.unheld, .follower].map (fun o =>
      (next .evaluationCompletion (holding busy [aged 2 (entry 23 1000 .suspect o)] [])).report.findings.map
        fun f => (f.holder, f.announced, f.peak))
      = [[(.self, true, 1000)], [(.partner 23, true, 1000)]] := by decide

/-- An evaluation in flight, nothing waiting, one entry about to be released and one about to be claimed. -/
theorem witness_PairCandidatesScored :
    let s := holding busy [entry 23 90 .recovering .holder, entry 31 800 .confirmed .unheld] []
    s.running = true ∧ s.evaluating = true ∧ s.QueueLawful ∧ s.line.received = [] ∧ s.line.held = [] :=
  ⟨by decide, by decide, ⟨by decide, by decide, by decide, by decide, claims_have_entries (by decide), by decide, by decide⟩,
   by decide, by decide⟩

/-- A peer zone at each end of a block, and an own entry without don't-care bits. -/
theorem witness_ZoneMatching :
    (⟨40, 2⟩ : OwnZone).accepts 40 = true ∧ (⟨40, 2⟩ : OwnZone).accepts 43 = true
      ∧ (⟨254, 0⟩ : OwnZone).dontCare = 0 ∧ (⟨254, 0⟩ : OwnZone).accepts 254 = true := by decide

/-- A match set; a table with no LOST entry; one with two of equal age. -/
theorem witness_MatchSetAndEviction :
    2 ∈ cfg.matchSet [112, 200]
      ∧ (⟨fullTable.map (aged 3), false, 0⟩ : NeighbourTable).evictable = none
      ∧ ((⟨fullTable, false, 0⟩ : NeighbourTable).evictable).map Entry.station = some 23 := by decide

/-- A digest of a known peer, listing this station and not, for each ownership it may meet. -/
theorem witness_DigestSettlesOwnership :
    ∀ o ∈ [Ownership.unheld, .holder, .follower], ∀ holders ∈ [[17], []],
      let s := hearing (holding up [entry 23 800 .confirmed o] [record (pairKey 23) .confirmed true]) 23
        (digest [41] holders)
      s.running = true ∧ s.evaluating = false ∧ s.QueueLawful
        ∧ s.line.received = .digest 23 (digest [41] holders) :: [] ∧ 23 ≠ s.own
        ∧ (digest [41] holders).zoneCount ≤ 4 ∧ (digest [41] holders).holderCount ≤ 8
        ∧ s.entry 23 = some (entry 23 800 .confirmed o) ∧ s.cfg.matchSet (digest [41] holders).zones ≠ [] := by
  intro o ho holders hh
  simp only [List.mem_cons, List.not_mem_nil, or_false] at ho hh
  rcases ho with rfl | rfl | rfl <;> rcases hh with rfl | rfl <;>
    exact ⟨by decide, by decide,
      ⟨by decide, by decide, by decide, by decide, claims_have_entries (by decide), by decide, by decide⟩,
      by decide, by decide, by decide, by decide, by decide, by decide⟩

/-- The same with a claim that waits, its record not announced. -/
theorem witness_DigestSettlesOwnership_claiming :
    ∀ holders ∈ [[17], []],
      let s := (hearing (holding up [entry 23 800 .confirmed .claiming] [record (pairKey 23) .confirmed false]) 23
        (digest [41] holders)).modLine fun l => { l with queue := [⟨.claim 23, 1⟩] }
      s.running = true ∧ s.evaluating = false ∧ s.QueueLawful
        ∧ s.line.received = .digest 23 (digest [41] holders) :: [] ∧ 23 ≠ s.own
        ∧ s.entry 23 = some (entry 23 800 .confirmed .claiming) ∧ s.cfg.matchSet (digest [41] holders).zones ≠ [] := by
  intro holders hh
  simp only [List.mem_cons, List.not_mem_nil, or_false] at hh
  rcases hh with rfl | rfl <;>
    exact ⟨by decide, by decide,
      ⟨by decide, by decide, by decide, by decide, claims_have_entries (by decide), by decide, by decide⟩,
      by decide, by decide, by decide, by decide⟩

/-- A digest of a known peer with no zone of this station, its candidate CONFIRMED and CLEAR. -/
theorem witness_DigestRemovesEntry :
    ∀ e ∈ [entry 23 800 .confirmed .holder, entry 23 0 .clear .unheld],
      let s := hearing (holding up [e] [record (pairKey 23) .confirmed true]) 23 (digest [120] [])
      s.running = true ∧ s.evaluating = false ∧ s.line.received = .digest 23 (digest [120] []) :: [] ∧ 23 ≠ s.own
        ∧ s.entry 23 = some e ∧ s.cfg.matchSet (digest [120] []).zones = [] := by decide

/-- A stranger's digest that matches, naming this station and not: a free place, a LOST entry, and neither. -/
theorem witness_DigestFromUnknownPeer :
    ∀ l ∈ [fullTable.take 7, fullTable, fullTable.map (aged 3)], ∀ holders ∈ [[], [17]],
      let s := hearing (holding up l []) 59 (digest [41] holders)
      s.running = true ∧ s.evaluating = false ∧ s.line.received = .digest 59 (digest [41] holders) :: [] ∧ 59 ≠ s.own
        ∧ s.entry 59 = none ∧ s.cfg.matchSet (digest [41] holders).zones ≠ []
        ∧ (s.own ∈ (digest [41] holders).holders ↔ holders = [17])
        ∧ (l = fullTable.take 7 → s.table.entries.length < 8)
        ∧ (l = fullTable → 8 ≤ s.table.entries.length ∧ s.table.evictable.isSome = true)
        ∧ (l = fullTable.map (aged 3) → 8 ≤ s.table.entries.length ∧ s.table.evictable = none) := by decide

/-- A full table whose oldest LOST entry is CONFIRMED, with its record. -/
theorem witness_DigestFromUnknownPeer_evicting :
    let old := aged 7 (entry 50 800 .confirmed .holder)
    let s := hearing (holding up (fullTable.set 2 (aged 5 (entry 23 0 .clear .unheld)))
      [record (pairKey 50) .confirmed true]) 59 (digest [41] [])
    8 ≤ s.table.entries.length ∧ s.table.evictable = some old ∧ s.entry 50 = some old := by decide

/-- The own number; 0 and 60; five zones, nine holders, no zone; a HALTED station. -/
theorem witness_DigestWithoutEntry :
    (up.running = true ∧ up.evaluating = false ∧ up.own = 17 ∧ up.numbered ∧ up.lineRuns = true)
      ∧ (hearing up 17 (digest [] [])).line.received = .digest up.own (digest [] []) :: []
      ∧ (hearing up 0 (digest [] [])).line.received = .digest 0 (digest [] []) :: []
      ∧ (hearing up 60 (digest [] [])).line.received = .digest 60 (digest [] []) :: []
      ∧ 4 < (digest [1, 2, 3, 4, 5] []).zoneCount ∧ 8 < (digest [] [1, 2, 3, 4, 5, 6, 7, 8, 9]).holderCount
      ∧ up.entry 59 = none ∧ up.cfg.matchSet (digest [] []).zones = []
      ∧ dead.lineRuns = true ∧ dead.halted = true ∧ dead.evaluating = false := by decide

/-- A station past a window, with no telegram, one eligible and one in its pause; an idle line; a backoff; a searching
station; a telegram followed; a pause. -/
theorem witness_LineFollowed :
    (up.lineRuns = true ∧ up.line.idle = false ∧ up.line.tracking = .afterWindow ∧ up.line.backoff = none
      ∧ up.line.transmission = none ∧ 0 < up.line.window ∧ up.line.queue = [])
    ∧ (let s := up.modLine fun l => { l with queue := [⟨.digest, 0⟩] }
       s.line.tracking = .afterWindow ∧ s.line.eligible .digest = true)
    ∧ (let s := up.modLine fun l => { l with queue := [⟨.digest, 0⟩], pauses := [.digest] }
       s.lineRuns = true ∧ s.line.pauses = .digest :: [] ∧ s.line.eligible .digest = false)
    ∧ (let s := up.modLine fun l => { l with idle := true, backoff := some 0 }
       s.lineRuns = true ∧ s.line.idle = true ∧ s.line.backoff.isSome = true)
    ∧ (let s := up.modLine fun l => { l with tracking := .searching }
       s.lineRuns = true ∧ s.line.idle = false ∧ s.line.tracking = .searching)
    ∧ (let s := up.modLine fun l => { l with tracking := .telegram none }
       s.lineRuns = true ∧ s.line.transmission = none ∧ s.line.tracking = .telegram none) := by decide

/-- The end of a backoff: a telegram in its pause, then an eligible one; a finding telegram without a record, alone and
before another; nothing eligible. -/
theorem witness_BackoffEnds :
    (let s := fighting.modLine fun l =>
       { l with backoff := some 0, queue := [⟨.digest, 0⟩, ⟨.claim 23, 0⟩], pauses := [.digest] }
     s.lineRuns = true ∧ s.line.backoff.isSome = true ∧ s.line.eligible .digest = false
       ∧ s.line.eligible (.claim 23) = true ∧ (s.gather (.claim 23)).isSome = true)
    ∧ (let s := fighting.modLine fun l => { l with backoff := some 0, queue := [⟨.finding ⟨.hunting, 0⟩, 0⟩, ⟨.claim 23, 0⟩] }
       s.lineRuns = true ∧ (s.line.queue.map Queued.telegram).Nodup ∧ s.line.eligible (.finding ⟨.hunting, 0⟩) = true
         ∧ s.record ⟨.hunting, 0⟩ = none ∧ s.line.eligible (.claim 23) = true
         ∧ (s.gather (.claim 23)).isSome = true)
    ∧ (let s := up.modLine fun l => { l with backoff := some 0 }
       s.lineRuns = true ∧ s.line.backoff.isSome = true ∧ s.line.queue = []) := by decide

/-- Something to gather from, for each telegram. -/
theorem witness_GatheredContent :
    let s := fighting.modEval fun e => { e with summary := some (summary 0 0) }
    ∀ o ∈ [Outgoing.digest, .claim 23, .finding (pairKey 23), .reply 60 1 0 0, .reply 60 2 0 0, .reply 60 3 0 0],
      (s.gather o).isSome = true := by decide

/-- A digest on the line, its fourteenth attempt and its fifteenth behind it. -/
theorem witness_AttemptFails :
    ∀ n ∈ [14, 15],
      let s := sending up [⟨.digest, n⟩] (some (attempt .digest))
      s.lineRuns = true ∧ s.line.transmission = some (attempt .digest) ∧ (attempt .digest).inQueue = true
        ∧ s.line.queue = [] ++ ⟨.digest, n⟩ :: [] ∧ (s.line.queue.map Queued.telegram).Nodup := by decide

/-- A digest and a reply on the line; a digest, a claim and a FINDING whose places in the queue have gone. -/
theorem witness_DigestOrReplySent :
    (∀ o ∈ [Outgoing.digest, .reply 60 1 0 0],
      let s := sending up [⟨o, 0⟩] (some (attempt o))
      s.lineRuns = true ∧ s.line.transmission = some (attempt o) ∧ (attempt o).inQueue = true
        ∧ ((attempt o).telegram = .digest ∨ (attempt o).telegram.isReply = true))
    ∧ (∀ o ∈ [Outgoing.digest, .claim 23, .finding (pairKey 23)],
      let s := sending fighting [] (some { attempt o with inQueue := false })
      s.lineRuns = true ∧ (s.report.findings.map Finding.key).Nodup
        ∧ s.line.transmission = some { attempt o with inQueue := false }) := by decide

/-- A FINDING on the line that carries CONFIRMED, its record CONFIRMED still, RETIRED by now, gone, or the partner's. -/
theorem witness_FindingSent :
    (∀ l ∈ [[], [{ record (pairKey 23) .confirmed true with holder := .partner 23 }]],
      let s := sending (holding up [] l) [⟨.finding (pairKey 23), 0⟩] (some (attempt (.finding (pairKey 23))))
      s.lineRuns = true ∧ s.line.transmission = some (attempt (.finding (pairKey 23)))
        ∧ (s.report.findings.map Finding.key).Nodup
        ∧ (s.record (pairKey 23)).all (fun r => r.holder != .self && r.status.isActive) = true) ∧
    ∀ status ∈ [RecordStatus.confirmed, .retired],
      let r := record (pairKey 23) status false
      let s := sending (holding up [] [r]) [⟨.finding (pairKey 23), 0⟩] (some (attempt (.finding (pairKey 23))))
      s.lineRuns = true ∧ s.line.transmission = some (attempt (.finding (pairKey 23)))
        ∧ (s.report.findings.map Finding.key).Nodup ∧ s.record (pairKey 23) = some r ∧ r.holder = .self := by decide

/-- R161, R163: a FINDING withdrawn while on the line ends sent: its record learns nothing, and another record's FINDING
joins. -/
theorem test_withdrawn_finding :
    let s := sending (holding up [] [record (pairKey 23) .confirmed true, record (pairKey 31) .withdrawn false]) []
      (some { attempt (.finding (pairKey 23)) with inQueue := false })
    let t := next (.attemptOutcome false false false) s
    t.report.findings = s.report.findings ∧ t.line.queue = [⟨.finding (pairKey 31), 0⟩] := by decide

/-- A header and body of 44 characters, damaged in one bit and in three. -/
theorem witness_CheckDetectsThreeBits :
    let content := headed 5 17 60 (List.replicate 40 0#8)
    content.length = 44
      ∧ (let read := (sealed content).set 45 ((sealed content).getD 45 0 ^^^ 1)
         read.length = content.length + 2 ∧ bitsDamaged (sealed content) read = 1)
      ∧ (let read := (sealed content).set 0 ((sealed content).getD 0 0 ^^^ 7)
         read.length = content.length + 2 ∧ bitsDamaged (sealed content) read = 3) := by decide

/-- Four zones, eight holders, and an effort at each end of its range. -/
theorem witness_DigestReadsBack :
    ([1, 2, 254, 255].length ≤ 4) ∧ ([1, 2, 3, 4, 5, 6, 7, 59].length ≤ 8) ∧ (∀ z ∈ [1, 2, 254, 255], z < 256)
      ∧ (-4079 : Int) ≤ (summary 0 (-4079)).effort ∧ (summary 0 4079).effort ≤ 4079 := by decide

/-- A SEARCHING station on a busy line; a station with no supply; an idle block of each kind; an evaluation in flight. -/
theorem witness_EventsWithoutRoom :
    (up.modLine fun l => { l with tracking := .searching }).listening = false
      ∧ State.reset.running = false ∧ State.reset.startingUp = false ∧ State.reset.lineRuns = false
      ∧ busy.evaluating = true ∧ up.evaluating = false ∧ up.line.transmission = none ∧ up.line.backoff = none := by decide

/-- A damaged telegram to this station and to another; telegrams that R155 ignores, one for each ground. -/
theorem witness_TelegramsWithoutEffect :
    up.listening = true ∧ up.numbered
      ∧ (∀ destination ∈ [17, 18],
          let c := (chars 6 60 destination [7#8, 23#8]).set 5 0#8
          framed c = true ∧ checkPasses c = false)
      ∧ bodyLengthFits 2 [] = false ∧ valueFits 4 [4#8, 0#8] = false
      ∧ Carries (chars 2 9 17 []) ⟨2, 9, 17, []⟩ ∧ Carries (chars 4 60 17 [4#8, 0#8]) ⟨4, 60, 17, [4#8, 0#8]⟩
      ∧ Carries (chars 2 9 18 [0#8, 0#8]) ⟨2, 9, 18, [0#8, 0#8]⟩
      ∧ Carries (chars 6 60 17 [8#8, 23#8]) ⟨6, 60, 17, [8#8, 23#8]⟩
      ∧ Carries (chars 6 59 17 [7#8, 23#8]) ⟨6, 59, 17, [7#8, 23#8]⟩
      ∧ Carries (chars 6 63 17 [7#8, 23#8]) ⟨6, 63, 17, [7#8, 23#8]⟩
      ∧ Carries (chars 2 9 63 [0#8, 0#8]) ⟨2, 9, 63, [0#8, 0#8]⟩ ∧ Carries (chars 5 9 17 []) ⟨5, 9, 17, []⟩ :=
  ⟨by decide, by decide, by decide, by decide, by decide, carries _ _ _ _ (by decide), carries _ _ _ _ (by decide),
   carries _ _ _ _ (by decide), carries _ _ _ _ (by decide), carries _ _ _ _ (by decide), carries _ _ _ _ (by decide),
   carries _ _ _ _ (by decide), carries _ _ _ _ (by decide)⟩

/-- One of each during an evaluation, from terminals 60 and 62; ACKNOWLEDGE with the least and the greatest kind. -/
theorem witness_AddressedDuringEvaluation :
    busy.listening = true ∧ busy.numbered ∧ busy.evaluating = true
      ∧ Carries (chars 2 9 17 [0#8, 0#8]) ⟨2, 9, busy.own, [0#8, 0#8]⟩
      ∧ Carries (chars 6 60 17 [7#8, 23#8]) ⟨6, 60, busy.own, [7#8, 23#8]⟩
      ∧ Carries (chars 6 60 17 [1#8, 0#8]) ⟨6, 60, busy.own, [1#8, 0#8]⟩
      ∧ Carries (chars 7 62 17 [1#8]) ⟨7, 62, busy.own, [1#8]⟩ ∧ Carries (chars 7 60 17 [2#8]) ⟨7, 60, busy.own, [2#8]⟩ :=
  ⟨by decide, by decide, by decide, carries _ _ _ _ (by decide), carries _ _ _ _ (by decide),
   carries _ _ _ _ (by decide), carries _ _ _ _ (by decide), carries _ _ _ _ (by decide)⟩

/-- A digest to the group and one to this station, and queries 1 to 3, outside an evaluation with nothing waiting, during
one and outside with a receive queue of 3 and of 4, and with a query that waits. -/
theorem witness_ReceiveQueueJoined :
    (∀ u ∈ [up, busy], ∀ n ∈ [3, 4],
      let s := u.modLine fun l => { l with received := List.replicate n (.digest 9 (digest [] [])) }
      s.listening = true ∧ s.numbered ∧ s.line.received.length = n)
    ∧ (up.listening = true ∧ up.numbered ∧ up.evaluating = false ∧ up.line.received = [] ∧ busy.evaluating = true)
    ∧ (let body := digestBody (summary 0 0) false [41] [17]
       6 ≤ body.length ∧ body.length = 6 + (readDigest body).zoneCount + (readDigest body).holderCount
         ∧ Carries (chars 1 9 63 body) ⟨1, 9, 63, body⟩ ∧ Carries (chars 1 9 17 body) ⟨1, 9, 17, body⟩)
    ∧ Carries (chars 4 60 17 [1#8, 0#8]) ⟨4, 60, up.own, [1#8, 0#8]⟩
    ∧ Carries (chars 4 61 17 [2#8, 0#8]) ⟨4, 61, up.own, [2#8, 0#8]⟩
    ∧ Carries (chars 4 62 17 [3#8, 0#8]) ⟨4, 62, up.own, [3#8, 0#8]⟩
    ∧ (let s := up.modLine fun l => { l with received := [.query 60 1 0] }
       s.listening = true ∧ ∃ r ∈ s.line.received, r.isQuery = true) :=
  ⟨by decide, by decide, ⟨by decide, by decide, carries _ _ _ _ (by decide), carries _ _ _ _ (by decide)⟩,
   carries _ _ _ _ (by decide), carries _ _ _ _ (by decide), carries _ _ _ _ (by decide), by decide⟩

/-- A claim that carries epoch 1 where the current one is 0. -/
theorem witness_ClaimAnsweredStale :
    fighting.listening = true ∧ fighting.running = true ∧ fighting.numbered ∧ fighting.evaluating = false
      ∧ Carries (chars 2 23 17 [3#8, 1#8]) ⟨2, 23, fighting.own, [3#8, 1#8]⟩
      ∧ fighting.entry 23 = some (entry 23 800 .confirmed .holder) ∧ (1#8 : Byte) ≠ fighting.eval.epoch :=
  ⟨by decide, by decide, by decide, by decide, carries _ _ _ _ (by decide), by decide, by decide⟩

/-- A claim at a HALTED station, from a stranger, for a CLEAR candidate, from a higher number at a HOLDER; from a lower
number at a HOLDER, and at a station that is CLAIMING, UNHELD or FOLLOWER. -/
theorem witness_ClaimAnswered :
    (dead.listening = true ∧ dead.numbered ∧ dead.running = false ∧ dead.evaluating = false
      ∧ Carries (chars 2 23 17 [3#8, 0#8]) ⟨2, 23, dead.own, [3#8, 0#8]⟩)
    ∧ up.entry 23 = none
    ∧ (let s := holding up [entry 23 0 .clear .unheld] []
       s.listening = true ∧ s.entry 23 = some (entry 23 0 .clear .unheld) ∧ (0#8 : Byte) = s.eval.epoch)
    ∧ (fighting.entry 23 = some (entry 23 800 .confirmed .holder) ∧ fighting.own < 23)
    ∧ Carries (chars 2 5 17 [3#8, 0#8]) ⟨2, 5, up.own, [3#8, 0#8]⟩
    ∧ (∀ o ∈ [Ownership.unheld, .claiming, .follower, .holder],
       let s := holding up [entry 5 800 .confirmed o] [record (pairKey 5) .confirmed true]
       s.listening = true ∧ s.running = true ∧ s.evaluating = false ∧ s.StationsDistinct
         ∧ s.entry 5 = some (entry 5 800 .confirmed o) ∧ (0#8 : Byte) = s.eval.epoch ∧ 5 < s.own) :=
  ⟨⟨by decide, by decide, by decide, by decide, carries _ _ _ _ (by decide)⟩, by decide, by decide, by decide,
   carries _ _ _ _ (by decide), by decide⟩

/-- A claim of this station on the line at its attempt count. -/
def claiming (s : State) (n : Nat) : State :=
  sending (holding s [{ entry 23 800 .confirmed .claiming with claimAttempts := n }] [record (pairKey 23) .confirmed false])
    [⟨.claim 23, n⟩] (some (attempt (.claim 23)))

/-- The window of an own claim. -/
theorem witness_ClaimSettled :
    let s := claiming up 0
    s.lineRuns = true ∧ s.evaluating = false ∧ s.line.transmission = some (attempt (.claim 23))
      ∧ (attempt (.claim 23)).inQueue = true ∧ (attempt (.claim 23)).telegram = .claim 23 ∧ s.StationsDistinct
      ∧ s.entry 23 = some (entry 23 800 .confirmed .claiming) := by decide

/-- An own claim at 14 attempts, and at 15. -/
theorem witness_ClaimRetriedOrSpent :
    ∀ n ∈ [14, 15],
      let s := claiming up n
      s.lineRuns = true ∧ s.evaluating = false ∧ s.line.transmission = some (attempt (.claim 23)) ∧ s.StationsDistinct
        ∧ s.line.holds (.claim 23) = true
        ∧ s.entry 23 = some { entry 23 800 .confirmed .claiming with claimAttempts := n } := by decide

/-- An own claim that ends during an evaluation. -/
theorem witness_ClaimOutcomeHeld :
    let s := claiming busy 0
    s.lineRuns = true ∧ s.evaluating = true ∧ s.line.transmission = some (attempt (.claim 23))
      ∧ (attempt (.claim 23)).inQueue = true ∧ (attempt (.claim 23)).telegram = .claim 23 := by decide

/-- Each query at the head of the receive queue of a RUNNING station and of a HALTED one. -/
theorem witness_QueriesTaken :
    ∀ s ∈ [up, dead], ∀ what ∈ [1, 2, 3],
      let t := s.modLine fun l => { l with received := [.query 60 what 4] }
      t.lineRuns = true ∧ t.evaluating = false ∧ t.line.received = .query 60 what 4 :: [] := by decide

/-- An acknowledgement that finds its record, one that finds none, one at a HALTED station. -/
theorem witness_Acknowledgement :
    Carries (chars 6 60 17 [7#8, 23#8]) ⟨6, 60, 17, [7#8, 23#8]⟩ ∧ (7#8 : Byte).toNat = Kind.crossFight.number
      ∧ (∀ s ∈ [fighting, up, dead], s.listening = true ∧ s.numbered ∧ s.evaluating = false ∧ s.own = 17
          ∧ (s.report.findings.map Finding.key).Nodup)
      ∧ (fighting.record (pairKey 23)).isSome = true ∧ up.record (pairKey 23) = none ∧ dead.running = false :=
  ⟨carries _ _ _ _ (by decide), by decide, by decide, by decide, by decide, by decide⟩

/-- A state whose lines agree, with a command that answers a next state. -/
theorem witness_OutputLines : State.reset.LinesAgree ∧ exec (.powerOn 17) .reset = .next (next (.powerOn 17) .reset) :=
  ⟨by decide, rfl⟩

/-- A candidate CONFIRMED at the least score of its band, a strobe waiting. -/
def working : State :=
  { holding up [entry 23 385 .confirmed .holder] [record (pairKey 23) .confirmed true] with
    pending := [.scanStrobe true true] }

/-- Its step answers a next state. -/
theorem working_steps : step working = .next (next (.scanStrobe true true) { working with pending := [] }) := rfl

/-- A state that keeps R68. -/
theorem witness_StepKeepsBands : working.CandidatesBanded ∧ ∃ t, step working = .next t := ⟨by decide, _, working_steps⟩

/-- A state within every bound, nothing waiting. -/
theorem witness_StepKeepsCapacity : working.WithinCapacity ∧ working.NothingWaits ∧ ∃ t, step working = .next t :=
  ⟨by decide, by decide, _, working_steps⟩

/-- A state that keeps R115. -/
theorem witness_StepKeepsOwnership : working.OwnershipLawful ∧ ∃ t, step working = .next t :=
  ⟨by decide, _, working_steps⟩

/-- A state that keeps R158 and R160. -/
theorem witness_StepKeepsRecords : working.ListBounded ∧ ∃ t, step working = .next t := ⟨by decide, _, working_steps⟩

/-- A state that keeps R118 and R153. -/
theorem witness_StepKeepsQueue : working.QueueLawful ∧ ∃ t, step working = .next t :=
  ⟨⟨by decide, by decide, by decide, by decide, claims_have_entries (by decide), by decide, by decide⟩, _, working_steps⟩

end Sys2Proof.Tests
end

/-! Codes and plausibility (R1, R10): what the converter reads off a voltage, and what an implausible sample does. -/

section
namespace Sys2Proof.Machine

/-! ### The code of an input voltage (R1) -/

theorem conversionCode_of_ge {microvolts : Int} (h : 2500000 ≤ microvolts) : conversionCode microvolts = 4095 := by
  have full : 4096 ≤ microvolts.toNat * 4096 / 2500000 := by omega
  exact min_eq_left (by omega)

theorem conversionCode_of_nonpos {microvolts : Int} (h : microvolts ≤ 0) : conversionCode microvolts = 0 := by
  simp [conversionCode, Int.toNat_of_nonpos h]

/-- Below 2.5 V the saturation at 4095 plays no part: the floored quotient is at most 4095 there. -/
theorem conversionCode_of_lt {microvolts : Int} (h : microvolts < 2500000) :
    conversionCode microvolts = microvolts.toNat * 4096 / 2500000 :=
  min_eq_right (by omega)

/-- The code is the floor of the scaled voltage: the one quotient whose unit interval holds it. -/
theorem conversionCode_floor {microvolts : Int} (low : 0 ≤ microvolts) (high : microvolts < 2500000) :
    (conversionCode microvolts : Int) * 2500000 ≤ microvolts * 4096
      ∧ microvolts * 4096 < ((conversionCode microvolts : Int) + 1) * 2500000 := by
  rw [conversionCode_of_lt high]
  constructor <;> omega

/-! ### Plausible and implausible samples (R10) -/

theorem plausibleCode_eq_false_iff (code : Nat) : plausibleCode code = false ↔ code < 16 ∨ 4079 < code := by
  simp only [plausibleCode, Bool.and_eq_false_iff, decide_eq_false_iff_not, not_le]

/-- Plausibility is settled when the sample is formed, by the code that it carries. -/
@[simp] theorem formSample_plausible (c : Configuration) (position : Nat) (microvolts : Int) :
    (formSample c position microvolts).plausible = plausibleCode (formSample c position microvolts).code := rfl

@[simp] theorem Acquisition.push_fifo (a : Acquisition) (x : Sample) : (a.push x).fifo = a.fifo ++ [x] := rfl

theorem RoleCounts.take_of_implausible {x : Sample} (n : RoleCounts) (h : x.plausible = false) :
    n.take x = { sum := n.sum, valid := n.valid, invalid := n.invalid + 1 } := by
  simp [RoleCounts.take, h]

/-- Settles O10, from the saturated ends and the floor of the code, and the rules of an implausible sample. -/
theorem codesAndPlausibility : Obligations.CodesAndPlausibility :=
  ⟨fun _ => ⟨conversionCode_of_ge, conversionCode_of_nonpos, conversionCode_floor⟩,
   plausibleCode_eq_false_iff, formSample_plausible, Acquisition.push_fifo, fun _ => RoleCounts.take_of_implausible⟩

end Sys2Proof.Machine
end

/-! The raw fraction and the damper outcome (R40, R45): rounding to nearest by its error bound, and roles that are not
mapped. -/

section
namespace Sys2Proof.Machine

/-! ### The raw fraction (R40) -/

/-- The magnitude q of R40: `n` times 1024 over `d`, rounded to nearest. -/
def fractionMagnitude (n d : Nat) : Nat := (2 * n * 1024 + d) / (2 * d)

theorem rawFraction_eq (num spread : Int) :
    rawFraction num spread = num.sign * spread.sign * (fractionMagnitude num.natAbs spread.natAbs : Int) := rfl

theorem fractionMagnitude_zero_left (d : Nat) : fractionMagnitude 0 d = 0 := by
  rcases d.eq_zero_or_pos with rfl | pos
  · rfl
  · exact Nat.div_eq_of_lt (by omega)

/-- The magnitude lies within a half of the exact quotient, the half itself admitted upwards only. -/
theorem fractionMagnitude_mul_bounds (n : Nat) {d : Nat} (pos : 0 < d) :
    2 * (fractionMagnitude n d * d) ≤ 2 * (n * 1024) + d ∧ 2 * (n * 1024) < 2 * (fractionMagnitude n d * d) + d := by
  have division : 2 * d * fractionMagnitude n d + (2 * n * 1024 + d) % (2 * d) = 2 * n * 1024 + d := Nat.div_add_mod _ _
  have remainder : (2 * n * 1024 + d) % (2 * d) < 2 * d := Nat.mod_lt _ (by omega)
  have regroup : 2 * d * fractionMagnitude n d = 2 * (fractionMagnitude n d * d) := by ring
  omega

theorem rawFraction_of_num_zero (spread : Int) : rawFraction 0 spread = 0 := by
  simp [rawFraction_eq]

theorem natAbs_rawFraction (num : Int) {spread : Int} (nonzero : spread ≠ 0) :
    (rawFraction num spread).natAbs = fractionMagnitude num.natAbs spread.natAbs := by
  rcases eq_or_ne num 0 with rfl | moved
  · simp [rawFraction_of_num_zero, fractionMagnitude_zero_left]
  · simp [rawFraction_eq, Int.natAbs_mul, Int.natAbs_sign_of_ne_zero, moved, nonzero]

theorem sign_rawFraction {num spread : Int} (nonzero : rawFraction num spread ≠ 0) :
    (rawFraction num spread).sign = num.sign * spread.sign := by
  rw [rawFraction_eq] at nonzero ⊢
  have magnitude := right_ne_zero_of_mul nonzero
  have positive : (fractionMagnitude num.natAbs spread.natAbs : Int).sign = 1 := Int.sign_eq_one_of_pos (by omega)
  rw [Int.sign_mul, Int.sign_mul, Int.sign_sign, Int.sign_sign, positive, mul_one]

/-- The sign of the spread cancels: the fraction times the spread carries the sign of the numerator alone. -/
theorem rawFraction_mul_spread (num spread : Int) :
    rawFraction num spread * spread
      = num.sign * ((fractionMagnitude num.natAbs spread.natAbs * spread.natAbs : Nat) : Int) := by
  rw [rawFraction_eq, Nat.cast_mul, ← Int.sign_mul_self_eq_natAbs spread]
  ring

/-- The rounding error is the numerator's sign times the error of the magnitude. -/
theorem rawFraction_error (num spread : Int) :
    rawFraction num spread * spread - num * 1024
      = num.sign * (((fractionMagnitude num.natAbs spread.natAbs * spread.natAbs : Nat) : Int) - (num.natAbs * 1024 : Nat)) := by
  have scaled : num * 1024 = num.sign * ((num.natAbs * 1024 : Nat) : Int) := by
    rw [Nat.cast_mul, ← mul_assoc, Int.sign_mul_natAbs]; rfl
  rw [rawFraction_mul_spread, scaled]
  ring

theorem rawFraction_error_le (num : Int) {spread : Int} (nonzero : spread ≠ 0) :
    2 * (rawFraction num spread * spread - num * 1024).natAbs ≤ spread.natAbs := by
  rcases eq_or_ne num 0 with rfl | moved
  · simp [rawFraction_of_num_zero]
  · obtain ⟨upper, lower⟩ := fractionMagnitude_mul_bounds num.natAbs (Int.natAbs_pos.mpr nonzero)
    rw [rawFraction_error, Int.natAbs_mul, Int.natAbs_sign_of_ne_zero moved, one_mul]
    omega

/-- An error of half the spread is a fraction too large in magnitude: the half goes away from zero. -/
theorem rawFraction_half_away {num spread : Int} (nonzero : spread ≠ 0)
    (half : 2 * (rawFraction num spread * spread - num * 1024).natAbs = spread.natAbs) :
    (num * 1024).natAbs < (rawFraction num spread * spread).natAbs := by
  have moved : num ≠ 0 := by
    rintro rfl
    rw [rawFraction_of_num_zero] at half
    omega
  obtain ⟨-, lower⟩ := fractionMagnitude_mul_bounds num.natAbs (Int.natAbs_pos.mpr nonzero)
  rw [rawFraction_error, Int.natAbs_mul, Int.natAbs_sign_of_ne_zero moved, one_mul] at half
  rw [rawFraction_mul_spread, Int.natAbs_mul num.sign, Int.natAbs_sign_of_ne_zero moved, one_mul, Int.natAbs_natCast]
  omega

/-- Where the spread divides, it divides the error too, and the error is too small to be any multiple but 0. -/
theorem rawFraction_exact {num spread : Int} (nonzero : spread ≠ 0) (divides : spread ∣ num * 1024) :
    rawFraction num spread * spread = num * 1024 := by
  have small := rawFraction_error_le num nonzero
  have errorDivides : spread ∣ rawFraction num spread * spread - num * 1024 := (dvd_mul_left _ _).sub divides
  exact sub_eq_zero.mp (Int.eq_zero_of_dvd_of_natAbs_lt_natAbs errorDivides (by omega))

/-- An odd factor takes nothing of 2048, so a half needs a spread that 2048 divides. -/
theorem dvd_spread_of_half {num spread k : Int} (half : num * 2048 = spread * (2 * k + 1)) : 2048 ∣ spread := by
  have odd : IsCoprime (2 : Int) (2 * k + 1) := ⟨-k, 1, by ring⟩
  have power : IsCoprime (2048 : Int) (2 * k + 1) := odd.pow_left (m := 11)
  exact power.dvd_of_dvd_mul_right (half ▸ dvd_mul_left _ _)

/-- Among the spreads of two means, only ±2048 is a nonzero multiple of 2048. -/
theorem exists_half_iff {num spread : Int} (nonzero : spread ≠ 0) (bound : spread.natAbs ≤ 4063) :
    (∃ k, num * 2048 = spread * (2 * k + 1)) ↔ spread.natAbs = 2048 ∧ num % 2 = 1 := by
  constructor
  · rintro ⟨k, half⟩
    have multiple := dvd_spread_of_half half
    have magnitude : spread.natAbs = 2048 := by omega
    rcases Int.natAbs_eq_iff.mp magnitude with rfl | rfl <;> omega
  · rintro ⟨magnitude, odd⟩
    rcases Int.natAbs_eq_iff.mp magnitude with rfl | rfl
    · exact ⟨num / 2, by omega⟩
    · exact ⟨-num / 2, by omega⟩

/-- Settles O19, from the error bound of the rounded magnitude and the sign that the product of the signs leaves. -/
theorem rawFraction_spec : Obligations.RawFraction := fun num _ nonzero =>
  ⟨natAbs_rawFraction num nonzero, sign_rawFraction, fun still => still ▸ rawFraction_of_num_zero _,
   rawFraction_exact nonzero, rawFraction_error_le num nonzero, rawFraction_half_away nonzero, exists_half_iff nonzero⟩

/-! ### Roles that are not mapped, and the damper paths (R31, R39, R44, R45) -/

theorem meanOf_of_not_mapped {c : Configuration} (b : Bank) {r : Role} (h : c.mapped r = false) :
    meanOf c b r = none := by
  simp [meanOf, reliable, h]

theorem pathA_of_not_mapped {c : Configuration} (b : Bank)
    (h : (c.mapped .oat && c.mapped .rat && c.mapped .mat) = false) : pathA c b = .blind := by
  simp only [Bool.and_eq_false_iff] at h
  unfold pathA
  rcases h with (noOat | noRat) | noMat
  · rw [meanOf_of_not_mapped b noOat]
  · rw [meanOf_of_not_mapped b noRat]
    cases meanOf c b .oat <;> rfl
  · rw [meanOf_of_not_mapped b noMat]
    cases meanOf c b .oat <;> cases meanOf c b .rat <;> rfl

theorem pathF_of_not_mapped {c : Configuration} (b : Bank) (h : c.mapped .dmf = false) : pathF c b = .blind := by
  simp [pathF, meanOf_of_not_mapped b h]

theorem damperVerdict_flags_right (a : PathResult) : damperVerdict a .flags = .evidence 64 := by
  cases a <;> rfl

theorem localVerdict_damperStuck (c : Configuration) (b : Bank) (changed : Bool) :
    localVerdict c b changed ⟨.damperStuck, 0⟩ = damperVerdict (pathA c b) (pathF c b) := rfl

theorem candidateActive_damperStuck (c : Configuration) :
    candidateActive c ⟨.damperStuck, 0⟩
      = (c.mapped .dmc && (c.mapped .oat && c.mapped .rat && c.mapped .mat || c.mapped .dmf)) := rfl

/-- Settles O20: the table entry by entry, and a station with neither path, whose roles have no mean. -/
theorem damperOutcome : Obligations.DamperOutcome := by
  refine ⟨fun _ => rfl, damperVerdict_flags_right, rfl, rfl, rfl, rfl, fun c b changed noMix noFeedback => ?_⟩
  have blindA := pathA_of_not_mapped b noMix
  have blindF := pathF_of_not_mapped b noFeedback
  refine ⟨blindA, blindF, ?_, ?_⟩
  · rw [candidateActive_damperStuck, noMix, noFeedback, Bool.or_false, Bool.and_false]
  · rw [localVerdict_damperStuck, blindA, blindF]
    rfl

end Sys2Proof.Machine
end

/-! Scores, gains and decays (R63, R64, R66, R67): what one outcome makes of a candidate, and the one gain that EVIDENCE
of each kind carries. -/

section
namespace Sys2Proof.Machine

/-! ### One outcome applied to a candidate (R63, R66, R67) -/

@[simp] theorem nextScore_evidence (k : Kind) (g score : Nat) :
    nextScore k (.evidence g) score = min 1023 (score + g) := rfl

@[simp] theorem nextScore_noEvidence (k : Kind) (score : Nat) : nextScore k .noEvidence score = score - k.decay := rfl

@[simp] theorem nextScore_notAssessable (k : Kind) (score : Nat) : nextScore k .notAssessable score = score := rfl

@[simp] theorem Scored.update_last (k : Kind) (v : Verdict) (c : Scored) : (c.update k v).last = some v := rfl

@[simp] theorem Scored.update_score (k : Kind) (v : Verdict) (c : Scored) :
    (c.update k v).score = nextScore k v c.score := rfl

/-- R67: one test, of the new score, from the state before the update. -/
theorem Scored.update_state (k : Kind) (v : Verdict) (c : Scored) :
    (c.update k v).state = nextState c.state (c.update k v).score := rfl

theorem nextState_clear (score : Nat) : nextState .clear score = if 256 ≤ score then .suspect else .clear := rfl

theorem nextState_suspect (score : Nat) :
    nextState .suspect score = if 768 ≤ score then .confirmed else if score ≤ 64 then .clear else .suspect := rfl

theorem nextState_confirmed (score : Nat) :
    nextState .confirmed score = if score ≤ 384 then .recovering else .confirmed := rfl

theorem nextState_recovering (score : Nat) :
    nextState .recovering score = if 768 ≤ score then .confirmed else if score ≤ 64 then .clear else .recovering := rfl

/-! ### The gain of each outcome (R64) -/

/-- A test that answers EVIDENCE or NO_EVIDENCE gives no gain but the one written into it. -/
theorem gain_of_test {p : Prop} [Decidable p] {gain g : Nat}
    (h : (if p then Verdict.evidence gain else .noEvidence) = .evidence g) : g = gain := by
  split at h
  · exact (Verdict.evidence.inj h).symm
  · cases h

/-- A test behind a condition without which the candidate is not assessable gives no other gain either. -/
theorem gain_of_assessable_test {p q : Prop} [Decidable p] [Decidable q] {gain g : Nat}
    (h : (if p then if q then Verdict.evidence gain else .noEvidence else .notAssessable) = .evidence g) : g = gain := by
  split at h
  · exact gain_of_test h
  · cases h

/-- Only the rows of R45 in which a path flags answer EVIDENCE, and each with the one gain. -/
theorem damperVerdict_gain : ∀ {a f : PathResult} {g : Nat}, damperVerdict a f = .evidence g → g = 64
  | .flags, _, _, rfl => rfl
  | .clears, .flags, _, rfl => rfl
  | .blind, .flags, _, rfl => rfl

theorem coolLeakVerdict_gain {c : Configuration} {b : Bank} {g : Nat} (h : coolLeakVerdict c b = .evidence g) :
    g = 48 := by
  unfold coolLeakVerdict at h
  split at h
  · exact gain_of_test h
  · cases h

theorem heatLeakVerdict_gain {c : Configuration} {b : Bank} {g : Nat} (h : heatLeakVerdict c b = .evidence g) :
    g = 48 := by
  unfold heatLeakVerdict at h
  split at h
  · exact gain_of_test h
  · cases h

theorem simultVerdict_gain {c : Configuration} {b : Bank} {changed : Bool} {g : Nat}
    (h : simultVerdict c b changed = .evidence g) : g = 64 := by
  unfold simultVerdict at h
  split at h
  · exact gain_of_assessable_test h
  · cases h

theorem huntingVerdict_gain {c : Configuration} {b : Bank} {changed : Bool} {g : Nat}
    (h : huntingVerdict c b changed = .evidence g) : g = 48 :=
  gain_of_assessable_test h

theorem pointVerdict_gain {c : Configuration} {b : Bank} {r : Role} {g : Nat} (h : pointVerdict c b r = .evidence g) :
    g = 128 :=
  gain_of_assessable_test h

/-- EVIDENCE for a point comes from a role: a subject that numbers none is not assessable. -/
theorem pointFault_gain {c : Configuration} {b : Bank} {changed : Bool} {subject g : Nat}
    (h : localVerdict c b changed ⟨.pointFault, subject⟩ = .evidence g) : g = 128 := by
  change (Role.ofNumber subject).elim .notAssessable (pointVerdict c b) = .evidence g at h
  cases role : Role.ofNumber subject with
  | none => rw [role] at h; cases h
  | some r => rw [role] at h; exact pointVerdict_gain h

/-- The gain of each local kind; CROSS_FIGHT has no local outcome. -/
theorem localVerdict_gain {c : Configuration} {b : Bank} {changed : Bool} {k : Key} {g : Nat}
    (h : localVerdict c b changed k = .evidence g) :
    (k.kind = .damperStuck ∧ g = 64) ∨ (k.kind = .coolLeak ∧ g = 48) ∨ (k.kind = .heatLeak ∧ g = 48)
      ∨ (k.kind = .simultHc ∧ g = 64) ∨ (k.kind = .hunting ∧ g = 48) ∨ (k.kind = .pointFault ∧ g = 128) := by
  obtain ⟨kind, subject⟩ := k
  cases kind with
  | damperStuck => exact .inl ⟨rfl, damperVerdict_gain h⟩
  | coolLeak => exact .inr (.inl ⟨rfl, coolLeakVerdict_gain h⟩)
  | heatLeak => exact .inr (.inr (.inl ⟨rfl, heatLeakVerdict_gain h⟩))
  | simultHc => exact .inr (.inr (.inr (.inl ⟨rfl, simultVerdict_gain h⟩)))
  | hunting => exact .inr (.inr (.inr (.inr (.inl ⟨rfl, huntingVerdict_gain h⟩))))
  | pointFault => exact .inr (.inr (.inr (.inr (.inr ⟨rfl, pointFault_gain h⟩))))
  | crossFight => cases h

/-- The two gains of CROSS_FIGHT: 80 where both stations report hunting, else 48. -/
theorem pairVerdict_gain {fight : Nat} {own : Summary} {held : Bool} {e : Entry} {g : Nat}
    (h : pairVerdict fight own held e = .evidence g) :
    g = if own.hunting = true ∧ e.lastDigest.hunting = true then 80 else 48 := by
  have gain := gain_of_assessable_test h
  simpa only [Bool.and_eq_true] using gain

/-- Settles O24: the score by the outcome and the state by one test of it; the decays, and the gain of each kind. -/
theorem scoresGainsAndDecays : Obligations.ScoresGainsAndDecays := by
  refine ⟨fun k v c => ⟨c.update_last k v, ?evidence, ?noEvidence, ?notAssessable, ?clear, ?suspect, ?confirmed,
      ?recovering⟩, ⟨rfl, rfl, rfl, rfl, rfl, rfl, rfl⟩, fun _ _ _ _ _ => localVerdict_gain,
      fun _ _ _ _ _ => pairVerdict_gain⟩
  case evidence => rintro g rfl; rw [Scored.update_score, nextScore_evidence]
  case noEvidence => rintro rfl; rw [Scored.update_score, nextScore_noEvidence]
  case notAssessable => rintro rfl; rw [Scored.update_score, nextScore_notAssessable]
  case clear => intro before; rw [Scored.update_state, before, nextState_clear]
  case suspect => intro before; rw [Scored.update_state, before, nextState_suspect]
  case confirmed => intro before; rw [Scored.update_state, before, nextState_confirmed]
  case recovering => intro before; rw [Scored.update_state, before, nextState_recovering]

end Sys2Proof.Machine
end

/-! Zone matching (R78): discarding the low bits of two numbers leaves them equal when both lie in one aligned block. -/

section
namespace Sys2Proof.Machine

/-! ### Aligned blocks -/

/-- The quotient of a number by the size of the blocks is the number of the block it lies in. -/
theorem div_eq_iff_mem_block {size n block : Nat} (positive : 0 < size) :
    n / size = block ↔ block * size ≤ n ∧ n < (block + 1) * size := by
  rw [← Nat.le_div_iff_mul_le positive, ← Nat.div_lt_iff_lt_mul positive]
  omega

theorem div_eq_div_iff_same_block {size p z : Nat} (positive : 0 < size) :
    p / size = z / size ↔ ∃ block, block * size ≤ p ∧ p < (block + 1) * size
      ∧ block * size ≤ z ∧ z < (block + 1) * size := by
  constructor
  · intro same
    have ⟨atLeast, below⟩ := (div_eq_iff_mem_block positive).1 same
    exact ⟨z / size, atLeast, below, (div_eq_iff_mem_block positive).1 rfl⟩
  · rintro ⟨block, atLeast, below, inBlock⟩
    exact ((div_eq_iff_mem_block positive).2 ⟨atLeast, below⟩).trans ((div_eq_iff_mem_block positive).2 inBlock).symm

/-! ### The test of a peer zone (R78) -/

theorem OwnZone.accepts_iff (z : OwnZone) (p : Nat) :
    z.accepts p = true ↔ 1 ≤ p ∧ p ≤ 254 ∧ p / 2 ^ z.dontCare = z.zone / 2 ^ z.dontCare := by
  simp [OwnZone.accepts, and_assoc]

/-- Settles O30: equal quotients by 2^k are one block of 2^k numbers, and with k = 0 the quotients are the numbers. -/
theorem zoneMatching : Obligations.ZoneMatching := by
  refine fun z p => ⟨?block, ?equalNumbers⟩
  case block => rw [z.accepts_iff, div_eq_div_iff_same_block (Nat.two_pow_pos z.dontCare)]
  case equalNumbers =>
    intro noDontCare
    rw [z.accepts_iff, noDontCare, Nat.pow_zero, Nat.div_one, Nat.div_one]

end Sys2Proof.Machine
end

/-! Cross-unit fighting (R104 to R107): when two efforts are opposite, and the outcome of one pair in one period. -/

section
namespace Sys2Proof.Machine

/-! ### Opposite efforts (R105) -/

theorem opposite_iff {fight : Nat} {own peer : Int} :
    opposite fight own peer = true ↔
      (fight : Int) ≤ own ∧ peer ≤ -(fight : Int) ∨ own ≤ -(fight : Int) ∧ (fight : Int) ≤ peer := by
  simp [opposite]

/-- Opposite efforts lie on the two sides of zero, so their product is not positive. -/
theorem mul_nonpos_of_opposite {fight : Nat} {own peer : Int} (h : opposite fight own peer = true) : own * peer ≤ 0 := by
  rcases opposite_iff.1 h with ⟨ownHeats, peerCools⟩ | ⟨ownCools, peerHeats⟩
  · exact Int.mul_nonpos_of_nonneg_of_nonpos (by omega) (by omega)
  · exact Int.mul_nonpos_of_nonpos_of_nonneg (by omega) (by omega)

/-- Both of two opposite efforts lie outside the band around zero. -/
theorem le_natAbs_of_opposite {fight : Nat} {own peer : Int} (h : opposite fight own peer = true) :
    fight ≤ own.natAbs ∧ fight ≤ peer.natAbs := by
  rcases opposite_iff.1 h with ⟨ownHeats, peerCools⟩ | ⟨ownCools, peerHeats⟩ <;> omega

/-- Settles O26: opposite efforts have a product of at most zero and magnitudes of at least fight_effort. -/
theorem oppositeEfforts : Obligations.OppositeEfforts := by
  refine fun fight own peer => ⟨opposite_iff, ?sameSign, ?withinBand⟩
  case sameSign =>
    intro _ positive
    exact Bool.eq_false_iff.2 fun h => absurd positive (mul_nonpos_of_opposite h).not_gt
  case withinBand =>
    intro within
    refine Bool.eq_false_iff.2 fun h => ?_
    have ⟨ownOutside, peerOutside⟩ := le_natAbs_of_opposite h
    omega

/-! ### The pair outcome (R104, R106, R107) -/

theorem freshness_eq_fresh_iff {age : Nat} : freshness age = .fresh ↔ age ≤ 1 := by
  unfold freshness
  split
  case isTrue young => exact iff_of_true rfl young
  case isFalse old => split <;> exact iff_of_false nofun old

/-- R104: what an entry needs for its pair outcome to be assessed. -/
def Entry.Assessable (own : Summary) (held : Bool) (e : Entry) : Prop :=
  e.age ≤ 1 ∧ own.effortValid = true ∧ e.lastDigest.effortValid = true ∧ own.fanProven = true
    ∧ e.lastDigest.fanProven = true ∧ held = false

/-- The test that `pairVerdict` makes first is R104's. -/
theorem Entry.assessable_iff {own : Summary} {held : Bool} {e : Entry} :
    e.Assessable own held ↔
      (freshness e.age == .fresh && !held && own.effortValid && e.lastDigest.effortValid && own.fanProven
        && e.lastDigest.fanProven) = true := by
  simp only [Entry.Assessable, Bool.and_eq_true, beq_iff_eq, Bool.not_eq_true', freshness_eq_fresh_iff]
  tauto

section
variable {fight : Nat} {own : Summary} {held : Bool} {e : Entry}

theorem pairVerdict_of_not_assessable (h : ¬e.Assessable own held) : pairVerdict fight own held e = .notAssessable :=
  if_neg (mt Entry.assessable_iff.2 h)

theorem pairVerdict_of_assessable (h : e.Assessable own held) :
    pairVerdict fight own held e =
      if opposite fight own.effort e.lastDigest.effort then
        .evidence (if own.hunting && e.lastDigest.hunting then 80 else 48)
      else .noEvidence :=
  if_pos (Entry.assessable_iff.1 h)

theorem pairVerdict_of_not_opposite (h : e.Assessable own held)
    (apart : opposite fight own.effort e.lastDigest.effort = false) : pairVerdict fight own held e = .noEvidence := by
  rw [pairVerdict_of_assessable h, apart, if_neg Bool.false_ne_true]

theorem pairVerdict_of_opposite (h : e.Assessable own held)
    (against : opposite fight own.effort e.lastDigest.effort = true) :
    pairVerdict fight own held e = .evidence (if own.hunting = true ∧ e.lastDigest.hunting = true then 80 else 48) := by
  rw [pairVerdict_of_assessable h, if_pos against]
  simp only [Bool.and_eq_true]

end

/-- Settles O27: the rows of R107 by the one test of R104 and then that of R105. -/
theorem pairOutcome : Obligations.PairOutcome := fun _ _ _ _ =>
  ⟨pairVerdict_of_not_assessable, pairVerdict_of_not_opposite, pairVerdict_of_opposite,
    fun c => c.update_score .crossFight .noEvidence⟩

end Sys2Proof.Machine
end

/-! What a command can do, said once: every command answers a next state, and its effect is a run of the moves listed
here, after which the lines are driven. A law that every move keeps is a law that every step keeps. -/

section
namespace Sys2Proof.Machine

/-! ### Changes of the line controller that add nothing -/

/-- W is one of the four values that R141 admits. -/
abbrev Line.WindowLawful (l : Line) : Prop := l.window ∈ [8, 16, 32, 64]

/-- A change of the line controller that adds no telegram to any queue: telegrams may leave the transmit queue, but of the
claims only those for which `present` does not hold. -/
structure Line.Quiet (present : Nat → Prop) (l m : Line) : Prop where
  queue : (m.queue.map Queued.telegram).Sublist (l.queue.map Queued.telegram)
  claims : ∀ p, present p → m.holds (.claim p) = l.holds (.claim p)
  received : m.received = l.received
  held : m.held = l.held
  window : l.WindowLawful → m.WindowLawful

namespace Line.Quiet

variable {present : Nat → Prop} {l m n : Line}

theorem of_eq (queue : m.queue = l.queue) (received : m.received = l.received) (held : m.held = l.held)
    (window : l.WindowLawful → m.WindowLawful) : Quiet present l m :=
  ⟨by rw [queue], fun _ _ => by rw [Line.holds, Line.holds, queue], received, held, window⟩

theorem refl (l : Line) : Quiet present l l := of_eq rfl rfl rfl id

theorem trans (h : Quiet present l m) (k : Quiet present m n) : Quiet present l n :=
  ⟨k.queue.trans h.queue, fun p hp => (k.claims p hp).trans (h.claims p hp), k.received.trans h.received,
    k.held.trans h.held, k.window ∘ h.window⟩

end Line.Quiet

theorem Line.leave_quiet {present : Nat → Prop} {o : Outgoing} (l : Line) (absent : ∀ p, present p → o ≠ .claim p) :
    Line.Quiet present l (l.leave o) where
  queue := List.filter_sublist.map _
  claims p hp := by simp [(absent p hp).symm]
  received := rfl
  held := rfl
  window _ := by simp [Line.WindowLawful, Line.leave]

theorem Line.countAttempt_quiet {present : Nat → Prop} (o : Outgoing) (l : Line) :
    Line.Quiet present l (l.countAttempt o) where
  queue := by rw [Line.countAttempt_telegrams]
  claims p _ := by
    have any_telegram : ∀ q : List Queued,
        (q.any fun x => x.telegram == Outgoing.claim p) = (q.map Queued.telegram).any (· == Outgoing.claim p) := by
      simp [List.any_map, Function.comp_def]
    rw [Line.holds, Line.holds, any_telegram, any_telegram, Line.countAttempt_telegrams]
  received := rfl
  held := rfl
  window := id

theorem Line.doubleWindow_lawful {l : Line} (h : l.WindowLawful) : l.doubleWindow.WindowLawful := by
  simp only [Line.WindowLawful, Line.doubleWindow, List.mem_cons, List.not_mem_nil, or_false] at h ⊢
  omega

theorem Line.beginBackoff_quiet {present : Nat → Prop} (l : Line) : Line.Quiet present l l.beginBackoff :=
  .of_eq (by simp) (by simp) (by simp) (by simp [Line.WindowLawful])

/-! ### Moves -/

/-- The state that EVALUATION_COMPLETION at instant `t` leaves, but for the line access and the output lines. -/
def State.completed (t : Nat) (s : State) : State :=
  (((s.modTimers fun x => x.map (Timers.reach t)).endEvaluation.applyResults.applyHeld.takeReceived.queueFindings)).modAcq
    (.drainAll s.cfg)

/-- One of the operations that commands are made of, with the conditions under which a command comes to it. -/
inductive Move : State → State → Prop
  | loader (f : Loader → Loader) (s : State) : Move s (s.modLoader f)
  | cleared (s : State) : Move s s.clearBlocks
  | timers (f : Option Timers → Option Timers) (s : State) : Move s (s.modTimers f)
  | flags (f : StickyFlags → StickyFlags) (s : State) : Move s (s.modFlags f)
  | activity (f : LocalCandidate → Bool) (s : State) :
      Move s (s.modLocals fun l => l.map fun x => { x with active := f x })
  | marks (f : Evaluator → Evaluator) (s : State) (same : (f s.eval).inFlight = s.eval.inFlight) : Move s (s.modEval f)
  | evaluation (f : Evaluator → Evaluator) (s : State) (begun : (f s.eval).inFlight ≠ none) : Move s (s.modEval f)
  | warm (s : State) : Move s s.warmRestart
  | scanning (f : Acquisition → Acquisition) (s : State) (same : (f s.acq).fifo = s.acq.fifo) : Move s (s.modAcq f)
  | sampled (x : Sample) (s : State) (room : s.acq.fifo.length < 12) (waits : s.evaluating = true) :
      Move s (s.modAcq (.push x))
  | drained (x : Sample) (s : State) : Move s ((s.modAcq (.push x)).modAcq (.drainAll s.cfg))
  | grown (s : State) : Move s (s.modTable fun t => { t with entries := t.entries.map Entry.grow })
  | settled (p : Nat) (s : State) : Move s (s.settleAge p)
  | ticked (s : State) : Move s s.tickDuplicate
  | completed (t : Nat) (s : State) (runs : s.running = true) : Move s (s.completed t)
  | line (f : Line → Line) (s : State) (quiet : Line.Quiet (fun p => (s.entry p).isSome) s.line (f s.line)) :
      Move s (s.modLine f)
  | joined (r : Received) (s : State) (room : s.line.received.length < 4)
      (single : r.isQuery = true → s.line.replyPending = false) (waits : s.evaluating = true) :
      Move s (s.modLine fun l => { l with received := l.received ++ [r] })
  | joinedTaken (r : Received) (s : State) (room : s.line.received.length < 4)
      (single : r.isQuery = true → s.line.replyPending = false) :
      Move s ((s.modLine fun l => { l with received := l.received ++ [r] }).takeReceived)
  | taken (r : Received) (rest : List Received) (s : State) (head : s.line.received = r :: rest) :
      Move s (s.popReceived.takeOne r)
  | follower (p : Nat) (s : State) : Move s (s.becomeFollower p)
  | held (h : HeldOutcome) (s : State) (waits : s.evaluating = true) :
      Move s (s.modLine fun l => { l with held := l.held ++ [h] })
  | outcome (p : Nat) (o : AttemptEnd) (s : State) : Move s (s.applyClaimOutcome p o)
  | announced (s : State) : Move s s.queueFindings
  | told (k : Key) (carried : RecordStatus) (s : State) : Move s (s.findingSent k carried)
  | acknowledged (k : Key) (s : State) : Move s (s.acknowledgeRecord k)

/-- A run of moves. -/
def Moves : State → State → Prop := Relation.ReflTransGen Move

namespace Moves

variable {s t u : State}

theorem refl (s : State) : Moves s s := Relation.ReflTransGen.refl

theorem one (h : Move s t) : Moves s t := Relation.ReflTransGen.single h

theorem trans (h : Moves s t) (k : Moves t u) : Moves s u := Relation.ReflTransGen.trans h k

theorem tail (h : Moves s t) (k : Move t u) : Moves s u := Relation.ReflTransGen.tail h k

/-- A line change that leaves queues, held outcomes and W alone. -/
theorem line (f : Line → Line) (s : State) (queue : (f s.line).queue = s.line.queue)
    (received : (f s.line).received = s.line.received) (held : (f s.line).held = s.line.held)
    (window : (f s.line).window = s.line.window) : Moves s (s.modLine f) :=
  one (.line f s (.of_eq queue received held fun h => by rwa [Line.WindowLawful, window]))

theorem access (s : State) : Moves s s.access := by
  rcases s.access_eq with h | h
  · rw [h]
    exact refl s
  · rw [h]
    exact one (.line _ s s.line.beginBackoff_quiet)

theorem foldl {α : Type} (f : State → α → State) (hf : ∀ s a, Moves s (f s a)) (l : List α) (s : State) :
    Moves s (l.foldl f s) := by
  induction l generalizing s with
  | nil => exact refl s
  | cons a l ih => exact (hf s a).trans (ih _)

/-- A law that every move keeps is kept by a run of moves. -/
theorem keep {P : State → Prop} (each : ∀ s t, P s → Move s t → P t) (h : P s) (moves : Moves s t) : P t := by
  induction moves with
  | refl => exact h
  | tail _ last ih => exact each _ _ ih last

end Moves

/-! ### What each command does -/

/-- What a command answers: the same state, or the lines driven after a run of moves. -/
def Answers (s : State) (o : Host.Outcome State Fault Refusal) : Prop :=
  o = .next s ∨ ∃ u, Moves s u ∧ o = finish u

namespace Answers

variable {s u : State}

theorem idle (s : State) : Answers s (.next s) := .inl rfl

theorem done (h : Moves s u) : Answers s (finish u) := .inr ⟨u, h, rfl⟩

theorem next {s : State} {o : Host.Outcome State Fault Refusal} (h : Answers s o) :
    ∃ t, o = .next t ∧ (t = s ∨ ∃ u, Moves s u ∧ t = u.driveLines) := by
  rcases h with rfl | ⟨u, moves, rfl⟩
  · exact ⟨s, rfl, .inl rfl⟩
  · exact ⟨_, rfl, .inr ⟨u, moves, rfl⟩⟩

/-- A command that has room for its event does something, and else nothing. -/
theorem ite {c : Prop} [Decidable c] {s : State} {o : Host.Outcome State Fault Refusal} (h : c → Answers s o) :
    Answers s (if c then o else .next s) := by
  split
  · exact h ‹_›
  · exact idle s

end Answers

section
variable (s : State)

theorem enterStarting_moves (cause : RestartCause) (straps : BitVec 6) : Moves s (s.enterStarting cause straps) := by
  have begun := (Moves.one (.cleared s)).tail (.loader
    (fun l => { l with station := .starting, halt := .none, cause := cause, number := none, config := none, version := 0 }) _)
  unfold State.enterStarting
  dsimp only
  split
  · exact begun.tail (.loader _ _)
  · exact begun.tail (.loader _ _)

theorem enterRunning_moves : Moves s s.enterRunning := by
  unfold State.enterRunning
  dsimp only
  refine Moves.tail (Moves.trans (Moves.tail (Moves.tail (.one (.loader _ s)) (.timers _ _)) (.activity _ _))
    (.line _ _ ?_ ?_ ?_ ?_)) (.marks _ _ ?_) <;> rfl

theorem execPowerOn_answers (straps : BitVec 6) : Answers s (execPowerOn straps s) := by
  have cleared := (Moves.one (.cleared s)).tail (.loader (fun l =>
    { l with supply := true, station := .starting, halt := .none, cause := .power, number := none, config := none
             version := 0 }) _)
  refine .done ?_
  split
  · exact cleared
  · exact cleared.trans (enterStarting_moves _ _ _)

theorem execResetLineAsserted_answers : Answers s (execResetLineAsserted s) :=
  .done ((Moves.one (.cleared s)).tail (.loader _ _))

theorem execResetLineReleased_answers (straps : BitVec 6) : Answers s (execResetLineReleased straps s) :=
  .ite fun _ => .done <| by
    have released := Moves.one (.loader (fun l => { l with resetAsserted := false }) s)
    split
    · exact released.trans (enterStarting_moves _ _ _)
    · exact released

theorem halt_moves (cause : HaltCause) : Moves s (s.halt cause) := .one (.loader _ s)

theorem execImageReadComplete_answers (image : List Byte) : Answers s (execImageReadComplete image s) :=
  .ite fun _ => by
    split
    · exact .done (halt_moves s _)
    · split
      · exact .done (halt_moves s _)
      · dsimp only
        split
        · exact .done ((Moves.one (.loader _ s)).trans (halt_moves _ _))
        · exact .done ((Moves.one (.loader _ s)).trans (enterRunning_moves _))

theorem execMemorySilent_answers : Answers s (execMemorySilent s) := .ite fun _ => .done (halt_moves s _)

theorem takeStrobe_fifo (fan occ new : Bool) (t : Nat) (a : Acquisition) :
    (a.takeStrobe fan occ new t).fifo = a.fifo := by
  unfold Acquisition.takeStrobe
  cases new <;> cases a.scan <;> rfl

theorem execScanStrobe_answers (fan occ : Bool) : Answers s (execScanStrobe fan occ s) := by
  unfold execScanStrobe
  split
  · dsimp only
    split
    · exact .done ((Moves.one (.timers _ s)).tail (.flags _ _))
    · exact .done ((Moves.one (.timers _ s)).tail (.scanning _ _ (takeStrobe_fifo ..)))
  · exact .idle s

theorem advance_fifo (c : Configuration) (x : Scan) (a : Acquisition) : (a.advance c x).fifo = a.fifo := by
  unfold Acquisition.advance
  split <;> rfl

theorem execConversionComplete_answers (microvolts : Int) : Answers s (execConversionComplete microvolts s) := by
  unfold execConversionComplete
  split
  · dsimp only
    have gone : ∀ x, Moves s ((s.modTimers fun t => t.map (Timers.reach (x.strobe + 4 * x.position))).modAcq
        (.advance s.cfg x)) := fun x => (Moves.one (.timers _ s)).tail (.scanning _ _ (advance_fifo ..))
    split
    · exact .done ((gone _).tail (.flags _ _))
    · rename_i room
      refine .done ?_
      split
      · rename_i evaluating
        refine (gone _).tail (.sampled _ _ ?_ evaluating)
        rw [State.modAcq_acq, advance_fifo]
        exact Nat.lt_of_not_le room
      · exact (gone _).tail (.drained _ _)
  · exact .idle s

theorem ageEntries_moves : Moves s s.ageEntries :=
  (Moves.one (.grown s)).trans (.foldl _ (fun s p => .one (.settled p s)) _ _)

theorem execPeriodExpiry_answers : Answers s (execPeriodExpiry s) := by
  unfold execPeriodExpiry
  split
  · rename_i T _ _
    refine .done ?_
    dsimp only
    have swapped : Moves s ((((s.modTimers fun _ => some { T.reach (T.expiryInstant s.cfg) with
          nextExpiry := T.expiryInstant s.cfg + s.cfg.periodLength }).modAcq Acquisition.swapBanks).modEval
        fun e => { e with sequence := e.sequence + 1 })) :=
      ((Moves.one (.timers _ s)).tail (.scanning _ _ rfl)).tail (.marks _ _ rfl)
    exact (((swapped.trans (ageEntries_moves _)).tail (.ticked _)).tail
      (.evaluation _ _ (by simp))).trans (.access _)
  · exact .idle s

theorem execEvaluationCompletion_eq {t : Nat} (runs : s.running = true) (flight : s.eval.inFlight = some t) :
    execEvaluationCompletion s = finish (s.completed t).access := by
  simp only [execEvaluationCompletion, runs, flight, State.completed]

theorem execEvaluationCompletion_answers : Answers s (execEvaluationCompletion s) := by
  unfold execEvaluationCompletion
  split
  · rename_i runs _
    exact .done ((Moves.one (.completed _ s runs)).trans (.access _))
  · exact .idle s

/-! The line controller -/

theorem execLineIdle_answers : Answers s (execLineIdle s) :=
  .ite fun _ => .done ((Moves.line (fun l => { l with idle := true }) s rfl rfl rfl rfl).trans (.access _))

theorem execLeaveTelegram_answers : Answers s (execLeaveTelegram s) :=
  .ite fun _ => .done (.line _ s rfl rfl rfl rfl)

theorem execDefer_answers : Answers s (execDefer s) := .ite fun _ => .done (.line _ s rfl rfl rfl rfl)

theorem execStartBitRead_answers : Answers s (execStartBitRead s) := .ite fun _ => .done (.line _ s rfl rfl rfl rfl)

/-- A telegram dropped at the end of a count has nothing to be gathered from (R150). -/
theorem choose_gone {o : Outgoing} : ∀ {l : List Queued}, o ∈ (s.choose l).1 → s.gather o = none
  | [], h => by simp [State.choose] at h
  | q :: rest, h => by
    simp only [State.choose] at h
    split at h
    · split at h
      · simp at h
      · rename_i none_
        rcases List.mem_cons.mp h with rfl | h
        · exact none_
        · exact choose_gone h
    · exact choose_gone h

theorem entry_eq_none_of_gather {p : Nat} (h : s.gather (.claim p) = none) : s.entry p = none := by
  simpa [State.gather] using h

theorem leaveAll_quiet {present : Nat → Prop} (gone : List Outgoing) (l : Line)
    (absent : ∀ o ∈ gone, ∀ p, present p → o ≠ .claim p) :
    Line.Quiet present l (gone.foldl (fun l o => l.leave o) l) := by
  induction gone generalizing l with
  | nil => exact .refl l
  | cons o gone ih =>
    exact (Line.leave_quiet l (absent o (List.mem_cons_self ..))).trans
      (ih _ fun o' h => absent o' (List.mem_cons_of_mem _ h))

theorem execBackoffEnd_answers : Answers s (execBackoffEnd s) :=
  .ite fun _ => by
    have dropped : Moves s (s.modLine fun l =>
        (s.choose s.line.queue).1.foldl (fun l o => l.leave o) { l with backoff := none }) := by
      refine .one (.line _ s ?_)
      refine .trans (.of_eq (m := { s.line with backoff := none }) rfl rfl rfl id)
        (leaveAll_quiet _ _ fun o ho p hp ho' => ?_)
      subst ho'
      simp [entry_eq_none_of_gather s (choose_gone s ho)] at hp
    dsimp only
    split
    · exact .done dropped
    · exact .done (dropped.trans (.line _ _ rfl rfl rfl rfl))

theorem countOrSpend_moves {o : Outgoing} (notClaim : ∀ p, o ≠ .claim p) : Moves s (s.countOrSpend o) := by
  have counted := Moves.one (.line (.countAttempt o) s (Line.countAttempt_quiet o _))
  unfold State.countOrSpend
  dsimp only
  split
  · exact (counted.tail (.line _ _ (Line.leave_quiet _ fun p _ => notClaim p))).tail (.flags _ _)
  · exact counted

theorem claimEnded_moves (p : Nat) (o : AttemptEnd) : Moves s (s.claimEnded p o) := by
  unfold State.claimEnded
  split
  · exact .one (.held _ s ‹_›)
  · exact .one (.outcome p o s)

theorem sent_moves (t : Transmission) : Moves s (s.sent t) := by
  have left : ∀ {o : Outgoing}, (∀ p, o ≠ .claim p) → Moves s (s.modLine (.leave o)) := fun h =>
    .one (.line _ s (Line.leave_quiet _ fun p _ => h p))
  unfold State.sent
  split
  · exact .one (.line _ s ((Line.leave_quiet _ fun _ _ => by simp).trans (.of_eq rfl rfl rfl id)))
  · dsimp only
    split
    · exact (left (by simp)).tail (.announced _)
    · exact ((left (by simp)).tail (.told _ _ _)).tail (.announced _)
  · exact left (by simp)
  · exact .refl s

theorem queuedWindow_moves (t : Transmission) (e : AttemptEnd) : Moves s (s.queuedWindow t e) := by
  have paused : ∀ o, Moves s (s.modLine (.startPause o)) := fun o => .line _ s rfl rfl rfl rfl
  unfold State.queuedWindow
  split
  · split
    · exact (paused _).trans (claimEnded_moves ..)
    · exact claimEnded_moves ..
  · rename_i notClaim
    split
    · exact (paused _).trans (countOrSpend_moves _ fun p h => notClaim p h)
    · exact sent_moves s t

theorem windowReset_moves (f : Line → Line) (queue : (f s.line).queue = s.line.queue)
    (received : (f s.line).received = s.line.received) (held : (f s.line).held = s.line.held)
    (window : (f s.line).window = 8) : Moves s (s.modLine f) :=
  .one (.line f s (.of_eq queue received held fun _ => by simp [Line.WindowLawful, window]))

theorem detachedWindow_moves (t : Transmission) (e : AttemptEnd) : Moves s (s.detachedWindow t e) := by
  unfold State.detachedWindow
  split
  · split
    · exact .refl s
    · exact windowReset_moves s _ rfl rfl rfl rfl
  · dsimp only
    split
    · exact windowReset_moves s _ rfl rfl rfl rfl
    · exact (windowReset_moves s _ rfl rfl rfl rfl).tail (.announced _)
  · exact windowReset_moves s _ rfl rfl rfl rfl
  · exact windowReset_moves s _ rfl rfl rfl rfl

theorem attemptLost_moves (t : Transmission) : Moves s (s.attemptLost t) := by
  have doubled := Moves.one (.line Line.doubleWindow s (.of_eq rfl rfl rfl Line.doubleWindow_lawful))
  unfold State.attemptLost
  split
  · exact claimEnded_moves ..
  · rename_i notClaim
    exact doubled.trans (countOrSpend_moves _ fun p h => notClaim p h)
  · exact doubled
  · exact windowReset_moves s _ rfl rfl rfl rfl

theorem execAttemptOutcome_answers (a b d : Bool) : Answers s (execAttemptOutcome a b d s) := by
  unfold execAttemptOutcome
  split
  · refine .done ((Moves.line (.endAttempt .afterWindow) s rfl rfl rfl rfl).trans ?_)
    split
    · exact queuedWindow_moves ..
    · exact detachedWindow_moves ..
  · exact .idle s

theorem execContentionLoss_answers : Answers s (execContentionLoss s) := by
  unfold execContentionLoss
  split
  · exact .done ((Moves.line _ s rfl rfl rfl rfl).trans (attemptLost_moves ..))
  · exact .idle s

theorem execLineFaultOnTransmit_answers : Answers s (execLineFaultOnTransmit s) := by
  unfold execLineFaultOnTransmit
  split
  · exact .done ((Moves.line _ s rfl rfl rfl rfl).trans (attemptLost_moves ..))
  · exact .idle s

theorem execRepeatPauseEnd_answers : Answers s (execRepeatPauseEnd s) :=
  .ite fun _ => .done
    ((Moves.line (fun l => { l with pauses := l.pauses.tail }) s rfl rfl rfl rfl).trans (.access _))

/-! Receiving -/

theorem driveMark_moves (m : Mark) : Moves s (s.driveMark m) := .line _ s rfl rfl rfl rfl

theorem receive_moves (kind : Nat) (chars : List Byte) (handle : Telegram → State → State)
    (handled : ∀ t u, Moves u (handle t u)) : Moves s (s.receive kind chars handle) := by
  have heard : Moves s (s.modLine Line.heard) := .line _ s rfl rfl rfl rfl
  unfold State.receive
  split
  · exact .line _ s rfl rfl rfl rfl
  · dsimp only
    split
    · split
      · exact heard.trans (driveMark_moves ..)
      · exact heard
    · split
      · exact heard.trans (handled ..)
      · exact heard

theorem join_moves (r : Received) (room : s.line.received.length < 4)
    (single : r.isQuery = true → s.line.replyPending = false) : Moves s (s.join r) := by
  unfold State.join
  dsimp only
  split
  · exact .one (.joined r s room single ‹_›)
  · exact .one (.joinedTaken r s room single)

theorem acceptDigest_moves (t : Telegram) : Moves s (s.acceptDigest t) := by
  have lost : Moves s s.flagReceiveLoss := .one (.flags _ s)
  unfold State.acceptDigest
  split
  · dsimp only
    split
    · exact lost.trans (driveMark_moves ..)
    · exact lost
  · rename_i room
    exact join_moves s _ (Nat.lt_of_not_le room) nofun

theorem acceptQuery_moves (t : Telegram) : Moves s (s.acceptQuery t) := by
  unfold State.acceptQuery
  split
  · exact driveMark_moves ..
  · split
    · exact (Moves.one (.flags _ s)).trans (driveMark_moves ..)
    · rename_i free room
      exact join_moves s _ (Nat.lt_of_not_le room) fun _ => by simpa using free

theorem acceptClaim_moves (t : Telegram) : Moves s (s.acceptClaim t) := by
  have marked : ∀ m, Moves s (s.modLine fun l => { l with mark := m }) := fun m => .line _ s rfl rfl rfl rfl
  unfold State.acceptClaim State.decideClaim
  split
  · exact marked _
  · split
    · dsimp only
      split
      · exact (marked _).tail (.follower _ _)
      · exact marked _
    · exact .refl s

theorem acceptAcknowledge_moves (t : Telegram) : Moves s (s.acceptAcknowledge t) := by
  unfold State.acceptAcknowledge
  split
  · exact driveMark_moves ..
  · split
    · split
      · exact .refl s
      · dsimp only
        split
        · exact (driveMark_moves ..).tail (.acknowledged _ _)
        · exact .refl s
    · exact .refl s

theorem acceptRestart_moves (act : State → State) (acts : Moves s (act s)) : Moves s (s.acceptRestart act) := by
  unfold State.acceptRestart
  split
  · exact driveMark_moves ..
  · exact acts.trans (driveMark_moves ..)

theorem execRestartCold_answers (chars : List Byte) (straps : BitVec 6) : Answers s (execRestartCold chars straps s) :=
  .ite fun _ => .done (receive_moves s _ _ _ fun t u => by
    split
    · exact acceptRestart_moves u _ (enterStarting_moves ..)
    · exact .refl u)

theorem execRestartWarm_answers (chars : List Byte) (straps : BitVec 6) : Answers s (execRestartWarm chars straps s) :=
  .ite fun _ => .done (receive_moves s _ _ _ fun t u => by
    split
    · refine acceptRestart_moves u _ ?_
      split
      · exact .one (.warm u)
      · exact enterStarting_moves ..
    · exact .refl u)

theorem execDigestTaken_answers : Answers s (execDigestTaken s) := by
  unfold execDigestTaken
  split
  · rename_i head
    exact .done ((Moves.one (.taken _ _ s head)).trans (.access _))
  · exact .idle s

theorem execQueryStatus_answers : Answers s (execQueryStatus s) := by
  unfold execQueryStatus
  split
  · rename_i head
    exact .done ((Moves.one (.taken _ _ s head)).trans (.access _))
  · exact .idle s

theorem execQueryFindings_answers : Answers s (execQueryFindings s) := by
  unfold execQueryFindings
  split
  · rename_i head
    exact .done ((Moves.one (.taken _ _ s head)).trans (.access _))
  · exact .idle s

theorem execQueryNeighbours_answers : Answers s (execQueryNeighbours s) := by
  unfold execQueryNeighbours
  split
  · rename_i head
    exact .done ((Moves.one (.taken _ _ s head)).trans (.access _))
  · exact .idle s

/-- The step inversion: what any command can do. -/
theorem exec_answers (c : Instr) : Answers s (exec c s) := by
  cases c with
  | powerOn straps => exact execPowerOn_answers s straps
  | resetLineAsserted => exact execResetLineAsserted_answers s
  | resetLineReleased straps => exact execResetLineReleased_answers s straps
  | imageReadComplete image => exact execImageReadComplete_answers s image
  | memorySilent => exact execMemorySilent_answers s
  | scanStrobe fan occ => exact execScanStrobe_answers s fan occ
  | conversionComplete v => exact execConversionComplete_answers s v
  | periodExpiry => exact execPeriodExpiry_answers s
  | evaluationCompletion => exact execEvaluationCompletion_answers s
  | lineIdle => exact execLineIdle_answers s
  | leaveTelegram => exact execLeaveTelegram_answers s
  | defer => exact execDefer_answers s
  | backoffEnd => exact execBackoffEnd_answers s
  | contentionLoss => exact execContentionLoss_answers s
  | attemptOutcome a b d => exact execAttemptOutcome_answers s a b d
  | repeatPauseEnd => exact execRepeatPauseEnd_answers s
  | receiveDigest chars => exact .ite fun _ => .done (receive_moves s _ _ _ fun t u => acceptDigest_moves u t)
  | digestTaken => exact execDigestTaken_answers s
  | receiveClaim chars => exact .ite fun _ => .done (receive_moves s _ _ _ fun t u => acceptClaim_moves u t)
  | receiveQuery chars => exact .ite fun _ => .done (receive_moves s _ _ _ fun t u => acceptQuery_moves u t)
  | queryStatus => exact execQueryStatus_answers s
  | queryFindings => exact execQueryFindings_answers s
  | queryNeighbours => exact execQueryNeighbours_answers s
  | acknowledge chars => exact .ite fun _ => .done (receive_moves s _ _ _ fun t u => acceptAcknowledge_moves u t)
  | restartWarm chars straps => exact execRestartWarm_answers s chars straps
  | restartCold chars straps => exact execRestartCold_answers s chars straps
  | receiveFinding chars => exact .ite fun _ => .done (receive_moves s _ _ _ fun _ u => .refl u)
  | receiveReply chars => exact .ite fun _ => .done (receive_moves s _ _ _ fun _ u => .refl u)
  | startBitRead => exact execStartBitRead_answers s
  | lineFaultOnTransmit => exact execLineFaultOnTransmit_answers s

end

/-! ### Laws kept by every step -/

/-- A law that the waiting commands and the output lines play no part in, and that every move keeps, is kept by every
step. -/
theorem step_keeps {P : State → Prop} (each : ∀ s t, P s → Move s t → P t) (driven : ∀ s, P s → P s.driveLines)
    (queue : ∀ s rest, P s → P { s with pending := rest }) {s t : State} (h : P s) (stepped : step s = .next t) : P t := by
  unfold step at stepped
  split at stepped
  · obtain rfl : s = t := by simpa using stepped
    exact h
  · rename_i c rest _
    obtain ⟨t', answer, what⟩ := (exec_answers { s with pending := rest } c).next
    obtain rfl : t' = t := by simpa using answer.symm.trans stepped
    rcases what with rfl | ⟨u, moves, rfl⟩
    · exact queue s rest h
    · exact driven u (moves.keep each (queue s rest h))

end Sys2Proof.Machine
end

/-! The commands that wait, the output lines (O1, O2, O55), and what an evaluation's completion leaves of the blocks
outside the neighbour table, the line controller and the report unit. -/

section
namespace Sys2Proof.Machine

/-! ### The evaluation's completion outside table, line and report -/

/-- The evaluator as the epoch decision of the completion leaves it, the evaluation over (R24, R33, R35). -/
def State.decided (s : State) : Evaluator :=
  { (s.eval.decide s.cfg s.acq.frozen) with inFlight := none }

/-- The station's own summary of the period that the completion publishes (R29). -/
def State.ownSummary (s : State) : Summary := periodSummary s.cfg s.acq.frozen s.decided

/-- The state in which the completion finds the candidates: the clock at the completion instant, the evaluation over, the
epoch decided. -/
def State.judging (t : Nat) (s : State) : State :=
  (s.modTimers fun x => x.map (Timers.reach t)).modEval fun _ => s.decided

@[simp] theorem State.judging_acq (t : Nat) (s : State) : (s.judging t).acq = s.acq := rfl
@[simp] theorem State.judging_timers (t : Nat) (s : State) : (s.judging t).timers = s.timers.map (Timers.reach t) := rfl
@[simp] theorem State.judging_eval (t : Nat) (s : State) : (s.judging t).eval = s.decided := rfl
@[simp] theorem State.judging_locals (t : Nat) (s : State) : (s.judging t).locals = s.locals := rfl
@[simp] theorem State.judging_table (t : Nat) (s : State) : (s.judging t).table = s.table := rfl
@[simp] theorem State.judging_line (t : Nat) (s : State) : (s.judging t).line = s.line := rfl
@[simp] theorem State.judging_report (t : Nat) (s : State) : (s.judging t).report = s.report := rfl
@[simp] theorem State.judging_loader (t : Nat) (s : State) : (s.judging t).loader = s.loader := rfl
@[simp] theorem State.judging_pending (t : Nat) (s : State) : (s.judging t).pending = s.pending := rfl
@[simp] theorem State.judging_cfg (t : Nat) (s : State) : (s.judging t).cfg = s.cfg := rfl
@[simp] theorem State.judging_own (t : Nat) (s : State) : (s.judging t).own = s.own := rfl
@[simp] theorem State.judging_running (t : Nat) (s : State) : (s.judging t).running = s.running := rfl

@[simp] theorem State.decided_sequence (s : State) : s.decided.sequence = s.eval.sequence := rfl

/-- The order of the completion: candidates, publication, held outcomes, receive queue, finding telegrams, drain. -/
theorem State.completed_eq (t : Nat) (s : State) :
    s.completed t = (((((s.judging t).updateCandidates s.ownSummary).publish s.ownSummary).applyHeld.takeReceived).queueFindings).modAcq
      (.drainAll s.cfg) := rfl

theorem publish_keepsAll (x : Summary) (s : State) :
    KeepsCore (s.modEval fun e => { e with summary := some x }) (s.publish x) := .modLine _ _

/-- What the completion leaves: all else that it does stays in table, line and report. -/
theorem completed_keepsCore (t : Nat) (s : State) :
    KeepsCore
      { s with
        acq := s.acq.drainAll s.cfg
        timers := s.timers.map (Timers.reach t)
        eval := { s.decided with summary := some s.ownSummary }
        locals := s.locals.map (LocalCandidate.evaluate s.cfg s.acq.frozen s.decided.epochChanged) }
      (s.completed t) := by
  have updated := updateCandidates_keeps s.ownSummary (s.judging t)
  have published := publish_keepsAll s.ownSummary ((s.judging t).updateCandidates s.ownSummary)
  have after := ((applyHeld_keepsCore _).trans (takeReceived_keepsCore _)).trans (queueFindings_keepsCore
    (((s.judging t).updateCandidates s.ownSummary).publish s.ownSummary).applyHeld.takeReceived)
  rw [State.completed_eq]
  constructor
  · simp only [State.modAcq_acq, after.acq, published.acq, State.modEval_acq, updated.acq, State.judging_acq]
  · simp only [State.modAcq_timers, after.timers, published.timers, State.modEval_timers, updated.timers,
      State.judging_timers]
  · simp only [State.modAcq_eval, after.eval, published.eval, State.modEval_eval, updated.eval, State.judging_eval]
  · simp only [State.modAcq_locals, after.locals, published.locals, State.modEval_locals, updated.locals]
    rfl
  · simp only [State.modAcq_loader, after.loader, published.loader, State.modEval_loader, updated.loader,
      State.judging_loader]
  · simp only [State.modAcq_pending, after.pending, published.pending, State.modEval_pending, updated.pending,
      State.judging_pending]

/-! ### The waiting commands -/

theorem endAllCandidates_keepsCore (s : State) : KeepsCore s s.endAllCandidates :=
  .foldl _ (fun s e => endCandidate_keepsCore e s) _ _

theorem warmRestart_pending (s : State) : s.warmRestart.pending = s.pending :=
  (endAllCandidates_keepsCore s).pending

theorem popReceived_keepsCore (s : State) : KeepsCore s s.popReceived := .modLine _ s

theorem Move.pending {s t : State} (move : Move s t) : t.pending = s.pending := by
  cases move with
  | warm => exact warmRestart_pending s
  | settled p => exact (settleAge_keepsCore s p).pending
  | completed t => exact (completed_keepsCore t s).pending
  | joinedTaken r => exact (takeReceived_keepsCore _).pending
  | taken r rest => exact ((popReceived_keepsCore s).trans (takeOne_keepsCore _ r)).pending
  | follower p => exact (becomeFollower_keepsCore p s).pending
  | outcome p o => exact (applyClaimOutcome_keepsCore p o s).pending
  | told k c => exact (findingSent_keepsCore k c s).pending
  | acknowledged k => exact (acknowledgeRecord_keepsCore k s).pending
  | _ => rfl

/-- Settles O1. -/
theorem stepRunsFrontCommand : Obligations.StepRunsFrontCommand := fun _ _ _ => rfl

/-- Settles O2: no move touches the waiting commands. -/
theorem everyCommandGoesOn : Obligations.EveryCommandGoesOn := by
  intro c s
  obtain ⟨t, answer, rfl | ⟨u, moves, rfl⟩⟩ := (exec_answers s c).next
  · exact ⟨t, answer, rfl⟩
  · have kept : u.pending = s.pending :=
      moves.keep (P := fun u => u.pending = s.pending) (fun _ _ h move => move.pending.trans h) rfl
    exact ⟨_, answer, kept⟩

/-! ### The output lines -/

theorem exec_linesAgree {c : Instr} {s t : State} (before : s.LinesAgree) (answer : exec c s = .next t) :
    t.LinesAgree := by
  obtain ⟨t', answer', rfl | ⟨u, -, rfl⟩⟩ := (exec_answers s c).next
  · obtain rfl : t' = t := by simpa using answer'.symm.trans answer
    exact before
  · obtain rfl : u.driveLines = t := by simpa using answer'.symm.trans answer
    exact u.driveLines_agree

theorem State.claimingFor_iff (s : State) (k : Key) :
    s.claimingFor k = true ↔ k.kind = .crossFight ∧ ∃ e, s.entry k.subject = some e ∧ e.ownership = .claiming := by
  simp [State.claimingFor, Option.any_eq_true]

theorem State.alerting_iff (s : State) (f : Finding) :
    s.alerting f = true ↔ f.status.isActive = true ∧ f.holder = .self ∧ f.acknowledged = false
      ∧ ¬(f.key.kind = .crossFight ∧ ∃ e, s.entry f.key.subject = some e ∧ e.ownership = .claiming) := by
  rw [← State.claimingFor_iff]
  simp [State.alerting, and_assoc]

theorem State.linesFollow_iff (s : State) : s.linesFollow = true ↔ s.running = true ∨ s.halted = true := by
  simp [State.linesFollow]

/-- R167: when a line to which `routed` routes records is asserted. -/
theorem State.alertLevel_iff (s : State) (routed : Kind → Bool) :
    (s.linesFollow && s.report.findings.any fun f => s.alerting f && routed f.key.kind) = true ↔
      (s.running = true ∨ s.halted = true) ∧ ∃ f ∈ s.report.findings,
        (f.status.isActive = true ∧ f.holder = .self ∧ f.acknowledged = false
          ∧ ¬(f.key.kind = .crossFight ∧ ∃ e, s.entry f.key.subject = some e ∧ e.ownership = .claiming))
        ∧ routed f.key.kind = true := by
  simp only [Bool.and_eq_true, List.any_eq_true, State.linesFollow_iff, State.alerting_iff]

theorem State.faultLevel_iff (s : State) :
    s.faultLevel = true ↔ (s.running = true ∨ s.halted = true) ∧
      (s.halted = true ∨ 0 < s.table.duplicateTimer ∨ s.table.saturated = true) := by
  simp only [State.faultLevel, Bool.and_eq_true, State.linesFollow_iff, Bool.or_eq_true, decide_eq_true_iff, or_assoc]

/-- Settles O55: after every command the lines agree with their levels, whose rules are R167 and R168. -/
theorem outputLines : Obligations.OutputLines := by
  intro c s t before answer
  obtain ⟨alertA, alertB, fault⟩ := exec_linesAgree before answer
  refine ⟨?_, ?_, ?_⟩
  · rw [alertA]
    exact t.alertLevel_iff t.cfg.routedToA
  · rw [alertB]
    exact t.alertLevel_iff t.cfg.routedToB
  · rw [fault]
    exact t.faultLevel_iff

end Sys2Proof.Machine
end

/-! What an operation of the pair coordinator leaves alone, whatever it does: beyond `OnlyPair`, the stations of the
table in their order, every candidate but one set back by STALE, and the course of the line. -/

section
namespace Sys2Proof.Machine

/-! ### The course of the line -/

/-- A change of the line controller that concerns its queues alone: what it follows, its receive queue and its marks are
as before, and no outcome is newly held. -/
structure Line.Course (l m : Line) : Prop where
  tracking : m.tracking = l.tracking
  idle : m.idle = l.idle
  backoff : m.backoff = l.backoff
  restartPending : m.restartPending = l.restartPending
  received : m.received = l.received
  mark : m.mark = l.mark
  draws : m.draws = l.draws
  held : m.held.Sublist l.held
  window : l.WindowLawful → m.WindowLawful

namespace Line.Course

variable {l m n : Line}

theorem refl (l : Line) : Course l l := ⟨rfl, rfl, rfl, rfl, rfl, rfl, rfl, .refl _, id⟩

theorem trans (h : Course l m) (k : Course m n) : Course l n :=
  ⟨k.tracking.trans h.tracking, k.idle.trans h.idle, k.backoff.trans h.backoff,
    k.restartPending.trans h.restartPending, k.received.trans h.received, k.mark.trans h.mark, k.draws.trans h.draws,
    k.held.trans h.held, k.window ∘ h.window⟩

end Line.Course

theorem Line.submit_course (o : Outgoing) (l : Line) : Line.Course l (l.submit o) :=
  ⟨rfl, rfl, rfl, rfl, rfl, rfl, rfl, .refl _, id⟩

theorem Line.leave_course (o : Outgoing) (l : Line) : Line.Course l (l.leave o) :=
  ⟨rfl, rfl, rfl, rfl, rfl, rfl, rfl, .refl _, fun _ => by simp [Line.WindowLawful, Line.leave]⟩

theorem Line.withdraw_course (o : Outgoing) (l : Line) : Line.Course l (l.withdraw o) := by
  unfold Line.withdraw
  split
  · split
    · exact ⟨rfl, rfl, rfl, rfl, rfl, rfl, rfl, .refl _, id⟩
    · exact l.leave_course o
  · exact .refl l

theorem Line.countAttempt_course (o : Outgoing) (l : Line) : Line.Course l (l.countAttempt o) :=
  ⟨rfl, rfl, rfl, rfl, rfl, rfl, rfl, .refl _, id⟩

theorem Line.doubleWindow_course (l : Line) : Line.Course l l.doubleWindow :=
  ⟨rfl, rfl, rfl, rfl, rfl, rfl, rfl, .refl _, Line.doubleWindow_lawful⟩

theorem Line.announce_course (l : Line) (r : Finding) : Line.Course l (l.announce r) := by
  unfold Line.announce
  split
  · exact l.submit_course _
  · exact .refl l

theorem Line.announceAll_course (records : List Finding) (l : Line) : Line.Course l (records.foldl Line.announce l) := by
  induction records generalizing l with
  | nil => exact .refl l
  | cons r records ih => exact (l.announce_course r).trans (ih _)

theorem Line.submitDigest_course (l : Line) : Line.Course l l.submitDigest := by
  unfold Line.submitDigest
  split
  · exact ⟨rfl, rfl, rfl, rfl, rfl, rfl, rfl, .refl _, id⟩
  · exact l.submit_course _

/-! ### The candidates -/

/-- A pair candidate as before, or set back to SUSPECT at 256 by a STALE outcome (R72). -/
def Scored.KeptOrSetBack (c d : Scored) : Prop := d = c ∨ d = { c with score := 256, state := .suspect }

theorem Scored.KeptOrSetBack.trans {c d e : Scored} (h : c.KeptOrSetBack d) (k : d.KeptOrSetBack e) :
    c.KeptOrSetBack e := by
  rcases h with rfl | rfl
  · exact k
  · rcases k with rfl | rfl
    · exact .inr rfl
    · exact .inr rfl

/-- Whatever is done for pairs and records: the table keeps its stations in their order and its candidates, but those set
back; the line keeps its course. -/
structure PairFrame (s t : State) : Prop extends KeepsCore s t where
  stations : t.table.entries.map Entry.station = s.table.entries.map Entry.station
  pairs : ∀ f ∈ t.table.entries, ∃ e ∈ s.table.entries, f.station = e.station ∧ e.pair.KeptOrSetBack f.pair
  saturated : t.table.saturated = s.table.saturated
  duplicateTimer : t.table.duplicateTimer = s.table.duplicateTimer
  course : s.line.Course t.line

namespace PairFrame

variable {s t u : State}

/-- A change that leaves the table alone. -/
theorem of_table (core : KeepsCore s t) (table : t.table = s.table) (course : s.line.Course t.line) : PairFrame s t :=
  ⟨core, by rw [table], fun f hf => ⟨f, table ▸ hf, rfl, .inl rfl⟩, by rw [table], by rw [table], course⟩

theorem refl (s : State) : PairFrame s s := of_table (.refl s) rfl (.refl _)

theorem trans (h : PairFrame s t) (k : PairFrame t u) : PairFrame s u where
  toKeepsCore := h.toKeepsCore.trans k.toKeepsCore
  stations := k.stations.trans h.stations
  pairs f hf := by
    obtain ⟨g, hg, same, pair⟩ := k.pairs f hf
    obtain ⟨e, he, same', pair'⟩ := h.pairs g hg
    exact ⟨e, he, same.trans same', pair'.trans pair⟩
  saturated := k.saturated.trans h.saturated
  duplicateTimer := k.duplicateTimer.trans h.duplicateTimer
  course := h.course.trans k.course

theorem modLine {f : Line → Line} (s : State) (course : s.line.Course (f s.line)) : PairFrame s (s.modLine f) :=
  of_table (.modLine f s) rfl course

theorem modReport (f : Report → Report) (s : State) : PairFrame s (s.modReport f) :=
  of_table (.modReport f s) rfl (.refl _)

theorem modActiveRecord (k : Key) (f : Finding → Finding) (s : State) : PairFrame s (s.modActiveRecord k f) :=
  of_table (.modActiveRecord k f s) rfl (.refl _)

theorem modEntry (p : Nat) {f : Entry → Entry} (s : State) (station : ∀ e : Entry, (f e).station = e.station)
    (pair : ∀ e : Entry, e.pair.KeptOrSetBack (f e).pair) : PairFrame s (s.modEntry p f) where
  toKeepsCore := .modEntry p f s
  stations := s.table.stations_update p f station
  pairs g hg := by
    obtain ⟨e, he, rfl⟩ := List.mem_map.mp hg
    refine ⟨e, he, ?_⟩
    split
    · exact ⟨station e, pair e⟩
    · exact ⟨rfl, .inl rfl⟩
  saturated := rfl
  duplicateTimer := rfl
  course := .refl _

theorem foldl {α : Type} (f : State → α → State) (hf : ∀ s a, PairFrame s (f s a)) (l : List α) (s : State) :
    PairFrame s (l.foldl f s) := by
  induction l generalizing s with
  | nil => exact refl s
  | cons a l ih => exact (hf s a).trans (ih _)

theorem length (h : PairFrame s t) : t.table.entries.length = s.table.entries.length := by
  simpa using congrArg List.length h.stations

theorem stationsDistinct (h : PairFrame s t) (distinct : s.StationsDistinct) : t.StationsDistinct := by
  rwa [State.StationsDistinct, h.stations]

end PairFrame

/-! ### Work on one pair -/

/-- What an operation on the pair with station `p` can do. -/
structure PairWork (p : Nat) (s t : State) : Prop where
  only : OnlyPair p s t
  frame : PairFrame s t

namespace PairWork

variable {p : Nat} {s t u : State}

theorem refl (s : State) : PairWork p s s :=
  ⟨⟨.refl s, fun _ _ => .rfl, fun _ _ => .rfl, fun _ _ _ => .rfl, rfl, rfl, rfl⟩, .refl s⟩

theorem trans (h : PairWork p s t) (k : PairWork p t u) : PairWork p s u where
  only :=
    ⟨h.only.toKeepsCore.trans k.only.toKeepsCore, fun g hg => (k.only.entries g hg).trans (h.only.entries g hg),
      fun f hf => (k.only.records f hf).trans (h.only.records f hf),
      fun q hc hf => (k.only.queue q hc hf).trans (h.only.queue q hc hf), k.only.saturated.trans h.only.saturated,
      k.only.duplicateTimer.trans h.only.duplicateTimer, k.only.restartPending.trans h.only.restartPending⟩
  frame := h.frame.trans k.frame

theorem modLine {f : Line → Line} (s : State) (course : s.line.Course (f s.line))
    (queue : ∀ q : Queued, q.telegram ≠ .claim p → q.telegram ≠ .finding (pairKey p) →
      (q ∈ (f s.line).queue ↔ q ∈ s.line.queue)) : PairWork p s (s.modLine f) :=
  ⟨⟨.modLine f s, fun _ _ => .rfl, fun _ _ => .rfl, queue, rfl, rfl, course.restartPending⟩, .modLine s course⟩

theorem modEntry {f : Entry → Entry} (s : State) (station : ∀ e : Entry, (f e).station = e.station)
    (pair : ∀ e : Entry, e.pair.KeptOrSetBack (f e).pair) : PairWork p s (s.modEntry p f) :=
  ⟨⟨.modEntry p f s, fun _ => s.table.mem_update_of_ne station, fun _ _ => .rfl, fun _ _ _ => .rfl, rfl, rfl, rfl⟩,
    .modEntry p s station pair⟩

theorem modFlags (f : StickyFlags → StickyFlags) (s : State) : PairWork p s (s.modFlags f) :=
  ⟨⟨.modFlags f s, fun _ _ => .rfl, fun _ _ => .rfl, fun _ _ _ => .rfl, rfl, rfl, rfl⟩, .modReport _ s⟩

theorem modActiveRecord {f : Finding → Finding} (s : State) (key : ∀ r, (f r).key = r.key) :
    PairWork p s (s.modActiveRecord (pairKey p) f) where
  only := by
    refine ⟨.modActiveRecord _ f s, fun _ _ => .rfl, fun r hr => ?_, fun _ _ _ => .rfl, rfl, rfl, rfl⟩
    refine (mem_changeRecord fun r => ?_).trans ?_
    · split
      · exact key r
      · rfl
    · constructor
      · rintro (⟨h, -⟩ | ⟨x, -, hx, rfl, -⟩)
        · exact h
        · refine absurd (Eq.trans ?_ hx) hr
          split
          · exact key x
          · rfl
      · exact fun h => .inl ⟨h, hr⟩
  frame := .modActiveRecord _ f s

end PairWork

/-! ### The places of other telegrams -/

theorem Line.mem_submit_of_ne {o : Outgoing} {l : Line} {q : Queued} (other : q.telegram ≠ o) :
    q ∈ (l.submit o).queue ↔ q ∈ l.queue := by
  simp only [Line.submit, List.mem_append, List.mem_singleton, or_iff_left_iff_imp]
  rintro rfl
  exact absurd rfl other

theorem Line.mem_leave_of_ne {o : Outgoing} {l : Line} {q : Queued} (other : q.telegram ≠ o) :
    q ∈ (l.leave o).queue ↔ q ∈ l.queue := by
  simp [Line.leave, other]

theorem Line.mem_withdraw_of_ne {o : Outgoing} {l : Line} {q : Queued} (other : q.telegram ≠ o) :
    q ∈ (l.withdraw o).queue ↔ q ∈ l.queue := by
  simp [other]

theorem Line.mem_countAttempt_of_ne {o : Outgoing} {l : Line} {q : Queued} (other : q.telegram ≠ o) :
    q ∈ (l.countAttempt o).queue ↔ q ∈ l.queue := by
  simp only [Line.countAttempt, List.mem_map]
  constructor
  · rintro ⟨x, hx, rfl⟩
    split at other
    · rename_i same
      exact absurd (by simpa using same) other
    · rename_i same
      simpa [same] using hx
  · exact fun h => ⟨q, h, by simp [other]⟩

/-! ### The operations of the pair coordinator -/

section
variable (p : Nat) (s : State)

theorem recordClaiming_work : PairWork p s (s.recordClaiming p) := .modActiveRecord s fun _ => rfl

theorem recordSettled_work (corroborated : Bool) : PairWork p s (s.recordSettled p corroborated) :=
  .modActiveRecord s fun _ => rfl

theorem withdrawRecord_work : PairWork p s (s.withdrawRecord (pairKey p)) := .modActiveRecord s fun _ => rfl

theorem recordFollows_work : PairWork p s (s.recordFollows p) := by
  unfold State.recordFollows
  dsimp only
  split
  · exact (PairWork.modLine s (Line.withdraw_course _ _) fun q _ other => Line.mem_withdraw_of_ne other).trans
      (.modActiveRecord _ fun _ => rfl)
  · exact .modActiveRecord _ fun _ => rfl

theorem testClaim_work : PairWork p s (s.testClaim p) := by
  unfold State.testClaim
  split
  · exact .refl s
  · split
    · exact ((PairWork.modLine s (Line.submit_course _ _) fun q other _ => Line.mem_submit_of_ne other).trans
        (.modEntry _ (fun _ => by rfl) fun _ => .inl (by rfl))).trans (recordClaiming_work p _)
    · exact .refl s

theorem withdrawClaim_work : PairWork p s (s.withdrawClaim p) := by
  have withdrawn := Line.withdraw_course (.claim p) s.line
  have course : s.line.Course
      { s.line.withdraw (.claim p) with held := s.line.held.filter fun h => h.peer != p } :=
    { withdrawn with held := List.filter_sublist }
  exact (PairWork.modLine s (by exact course) fun _ other _ => by exact Line.mem_withdraw_of_ne other).trans
    (.modEntry _ (fun _ => by rfl) fun _ => .inl (by rfl))

theorem withdrawIfClaiming_work : PairWork p s (s.withdrawIfClaiming p) := by
  unfold State.withdrawIfClaiming
  split
  · exact withdrawClaim_work p s
  · exact .refl s

theorem becomeFollower_work : PairWork p s (s.becomeFollower p) :=
  ((withdrawIfClaiming_work p s).trans (.modEntry _ (fun _ => by rfl) fun _ => .inl (by rfl))).trans (recordFollows_work p _)

theorem becomeUnheld_work : PairWork p s (s.becomeUnheld p) :=
  (PairWork.modEntry s (fun _ => by rfl) fun _ => .inl (by rfl)).trans (testClaim_work p _)

theorem unfollow_work : PairWork p s (s.unfollow p) := by
  unfold State.unfollow
  split
  · exact becomeUnheld_work p s
  · exact .refl s

theorem leaveClaim_work : PairWork p s (s.modLine (.leave (.claim p))) :=
  .modLine s (Line.leave_course _ _) fun _ other _ => Line.mem_leave_of_ne other

theorem settleHolder_work (corroborated : Bool) : PairWork p s (s.settleHolder p corroborated) :=
  ((leaveClaim_work p s).trans (.modEntry _ (fun _ => by rfl) fun _ => .inl (by rfl))).trans (recordSettled_work p _ _)

theorem settleStale_work : PairWork p s (s.settleStale p) :=
  ((leaveClaim_work p s).trans (.modEntry _ (fun _ => by rfl) fun _ => .inr (by rfl))).trans (withdrawRecord_work p _)

theorem claimRetry_work (lost : Bool) : PairWork p s (s.claimRetry p lost) := by
  have counted : PairWork p s ((s.modEntry p fun e => { e with claimAttempts := e.claimAttempts + 1 }).modLine
      (.countAttempt (.claim p))) :=
    (PairWork.modEntry s (fun _ => by rfl) fun _ => .inl (by rfl)).trans
      (.modLine _ (Line.countAttempt_course _ _) fun _ other _ => Line.mem_countAttempt_of_ne other)
  have spent : ∀ u, PairWork p s u → PairWork p s
      (if (u.entry p).any (fun e => 16 ≤ e.claimAttempts) then (u.settleHolder p false).flagTelegramDiscarded else u) := by
    intro u h
    split
    · exact (h.trans (settleHolder_work p u false)).trans (.modFlags _ _)
    · exact h
  unfold State.claimRetry
  dsimp only
  apply spent
  split
  · exact counted.trans (.modLine _ (Line.doubleWindow_course _) fun _ _ _ => .rfl)
  · exact counted

theorem applyClaimOutcome_work (o : AttemptEnd) : PairWork p s (s.applyClaimOutcome p o) := by
  unfold State.applyClaimOutcome
  split
  · cases o with
    | repeatMark => exact claimRetry_work p s false
    | stale => exact settleStale_work p s
    | concur => exact settleHolder_work p s true
    | noMark => exact settleHolder_work p s false
    | contentionLoss => exact claimRetry_work p s true
  · exact .refl s

theorem listedBy_work : PairWork p s (s.listedBy p) := by
  unfold State.listedBy
  split
  · exact .refl s
  · split
    · exact becomeFollower_work p s
    · exact becomeFollower_work p s
    · exact .refl s
    · split
      · exact .refl s
      · exact becomeFollower_work p s

theorem processHolders_work (holders : List Nat) : PairWork p s (s.processHolders p holders) := by
  unfold State.processHolders
  split
  · exact listedBy_work p s
  · exact unfollow_work p s

theorem coordinate_work (before after : CandState) : PairWork p s (s.coordinate p before after) := by
  unfold State.coordinate
  dsimp only
  refine PairWork.trans ?_ (testClaim_work p _)
  split
  · split
    · exact (withdrawIfClaiming_work p s).trans (.modEntry _ (fun _ => by rfl) fun _ => .inl (by rfl))
    · exact withdrawIfClaiming_work p s
  · exact .refl s

end

/-! ### The hand-over and the held outcomes -/

section
variable (s : State)

theorem reportTransition_frame (k : Key) (before after : CandState) (score : Nat) (holder : Holder) (announced : Bool) :
    PairFrame s (s.reportTransition k before after score holder announced) := by
  unfold State.reportTransition
  split
  · exact .modReport _ s
  · exact .modActiveRecord _ _ s
  · exact .modActiveRecord _ _ s
  · exact .modActiveRecord _ _ s
  · exact .refl s

theorem handScore_frame (k : Key) (score : Nat) : PairFrame s (s.handScore k score) := .modActiveRecord _ _ s

theorem handLocal_frame (h : Handed) : PairFrame s (s.handLocal h) := by
  unfold State.handLocal
  dsimp only
  split
  · exact (reportTransition_frame s ..).trans (handScore_frame ..)
  · exact reportTransition_frame s ..

theorem handPair_frame (p : Nat) (h : Handed) : PairFrame s (s.handPair p h) := by
  unfold State.handPair
  dsimp only
  split
  · exact ((coordinate_work p s _ _).frame.trans (reportTransition_frame ..)).trans (handScore_frame ..)
  · exact (coordinate_work p s _ _).frame.trans (reportTransition_frame ..)

theorem endCandidate_frame (e : Entry) : PairFrame s (s.endCandidate e) := by
  unfold State.endCandidate
  split
  · exact (withdrawRecord_work e.station s).frame
  · exact .refl s

theorem applyHeld_frame : PairFrame s s.applyHeld :=
  (PairFrame.modLine s ⟨rfl, rfl, rfl, rfl, rfl, rfl, rfl, List.nil_sublist _, id⟩).trans
    (.foldl _ (fun s (h : HeldOutcome) => (applyClaimOutcome_work h.peer s h.outcome).frame) _ _)

theorem queueFindings_frame : PairFrame s s.queueFindings := .modLine s (Line.announceAll_course _ _)

end

end Sys2Proof.Machine
end

/-! What the taking of a digest, an expiry and a completion are made of, and the laws that follow from the frames alone:
score and state of every candidate (O56), and the bounds of the queues, the table, W and the duplicate timer (O57). -/

section
namespace Sys2Proof.Machine

/-! ### Leaving and joining the table -/

theorem State.entry_eq_none_iff {s : State} {p : Nat} : s.entry p = none ↔ ∀ e ∈ s.table.entries, e.station ≠ p := by
  simp [State.entry, NeighbourTable.find]

theorem State.entry_spec {s : State} {p : Nat} {e : Entry} (h : s.entry p = some e) :
    e ∈ s.table.entries ∧ e.station = p :=
  NeighbourTable.find_station h

/-- What leaves the table is the entry of that station alone: what its claim's withdrawal changed goes with it (R95). -/
theorem NeighbourTable.filter_update (t : NeighbourTable) (p : Nat) {f : Entry → Entry}
    (station : ∀ e, (f e).station = e.station) :
    ((t.update p f).entries.filter fun e => e.station != p) = t.entries.filter fun e => e.station != p := by
  simp only [NeighbourTable.update]
  induction t.entries with
  | nil => rfl
  | cons e l ih => by_cases h : e.station = p <;> simp_all

theorem endCandidate_table (e : Entry) (s : State) : (s.endCandidate e).table = s.table := by
  unfold State.endCandidate
  split <;> rfl

theorem withdrawIfClaiming_others (p : Nat) (s : State) :
    ((s.withdrawIfClaiming p).table.entries.filter fun e => e.station != p)
      = s.table.entries.filter fun e => e.station != p := by
  unfold State.withdrawIfClaiming
  split
  · exact s.table.filter_update p fun _ => rfl
  · rfl

theorem removeEntry_entries (p : Nat) (s : State) :
    (s.removeEntry p).table.entries = s.table.entries.filter fun e => e.station != p := by
  unfold State.removeEntry
  split
  · rename_i absent
    refine (List.filter_eq_self.mpr fun e he => ?_).symm
    simpa using State.entry_eq_none_iff.mp absent e he
  · rw [State.modTable_table]
    exact (withdrawIfClaiming_others p _).trans (by rw [endCandidate_table])

theorem removeEntry_table {p : Nat} {s : State} {e : Entry} (h : s.entry p = some e) :
    (s.removeEntry p).table
      = { s.table with entries := s.table.entries.filter fun e => e.station != p, saturated := false } := by
  have entries := removeEntry_entries p s
  have timer := (withdrawIfClaiming_work p (s.endCandidate e)).frame.duplicateTimer
  rw [endCandidate_table] at timer
  simp only [State.removeEntry, h, State.modTable_table] at entries ⊢
  rw [entries, timer]

theorem removeEntry_duplicateTimer (p : Nat) (s : State) :
    (s.removeEntry p).table.duplicateTimer = s.table.duplicateTimer := by
  cases h : s.entry p with
  | none => simp [State.removeEntry, h]
  | some e => rw [removeEntry_table h]

theorem removeEntry_length {p : Nat} {s : State} (h : (s.entry p).isSome) :
    (s.removeEntry p).table.entries.length < s.table.entries.length := by
  obtain ⟨e, he⟩ := Option.isSome_iff_exists.mp h
  obtain ⟨mem, station⟩ := State.entry_spec he
  rw [removeEntry_entries]
  exact List.length_filter_lt_length_iff_exists.mpr ⟨e, mem, by simp [station]⟩

theorem removeEntry_absent {p q : Nat} {s : State} (h : s.entry q = none) : (s.removeEntry p).entry q = none := by
  rw [State.entry_eq_none_iff] at h ⊢
  rw [removeEntry_entries]
  exact fun e he => h e (List.mem_filter.mp he).1

theorem removeEntry_course (p : Nat) (s : State) : s.line.Course (s.removeEntry p).line := by
  unfold State.removeEntry
  split
  · exact .refl _
  · exact (endCandidate_frame s _).course.trans (withdrawIfClaiming_work p _).frame.course

/-- The choice between the best LOST entry so far and the next entry in table order (R90). -/
def evictChoice (best : Option Entry) (e : Entry) : Option Entry :=
  if freshness e.age == .lost then
    match best with
    | none => some e
    | some b => if b.age < e.age then some e else some b
  else best

theorem NeighbourTable.evictable_eq (t : NeighbourTable) : t.evictable = t.entries.foldl evictChoice none := rfl

theorem evictChoice_or (best : Option Entry) (e : Entry) : evictChoice best e = best ∨ evictChoice best e = some e := by
  unfold evictChoice
  split
  · split
    · exact .inr rfl
    · split
      · exact .inr rfl
      · exact .inl rfl
  · exact .inl rfl

/-- Only an entry of the table is evicted (R90). -/
theorem evictable_mem {t : NeighbourTable} {e : Entry} (h : t.evictable = some e) : e ∈ t.entries := by
  have chosen : ∀ (l : List Entry) (best : Option Entry), l.foldl evictChoice best = some e → e ∈ l ∨ best = some e := by
    intro l
    induction l with
    | nil => exact fun best h => .inr h
    | cons x l ih =>
      intro best h
      rcases ih _ h with mem | same
      · exact .inl (List.mem_cons_of_mem _ mem)
      · rcases evictChoice_or best x with kept | taken
        · exact .inr (kept ▸ same)
        · obtain rfl := Option.some.inj (taken.symm.trans same)
          exact .inl (List.mem_cons_self ..)
  exact (chosen _ _ h).resolve_right nofun

theorem evictable_present {s : State} {old : Entry} (h : s.table.evictable = some old) : (s.entry old.station).isSome := by
  rw [Option.isSome_iff_ne_none, Ne, State.entry_eq_none_iff]
  exact fun absent => absent old (evictable_mem h) rfl

/-! ### What the taking of one telegram is made of -/

/-- A law that everything a digest can lead to keeps. A newcomer is enrolled where the table holds no entry for it and
has room, or has just made room. -/
structure DigestLaw (P : State → Prop) : Prop where
  refreshed : ∀ (p : Nat) (places : List Nat) (d : Summary) (s : State), P s →
    P (s.modEntry p fun e => { e with matchSet := places, lastDigest := d, age := 0 })
  unfollowed : ∀ (p : Nat) (s : State), P s → P (s.unfollow p)
  follower : ∀ (p : Nat) (s : State), P s → P (s.becomeFollower p)
  removed : ∀ (p : Nat) (s : State), P s → P (s.removeEntry p)
  enrolled : ∀ (p : Nat) (places : List Nat) (d : Summary) (s : State), P s → s.entry p = none →
    (s.table.entries.length < 8 ∨ ∃ u, P u ∧ s.table.entries.length < u.table.entries.length) → P (s.enrol p places d)
  refused : ∀ s : State, P s → P s.refuseNeighbour
  duplicate : ∀ s : State, P s → P s.duplicateSeen

namespace DigestLaw

variable {P : State → Prop} (law : DigestLaw P) {s : State}

include law

theorem listedBy (p : Nat) (h : P s) : P (s.listedBy p) := by
  unfold State.listedBy
  split
  · exact h
  · split
    · exact law.follower p s h
    · exact law.follower p s h
    · exact h
    · split
      · exact h
      · exact law.follower p s h

theorem processHolders (p : Nat) (holders : List Nat) (h : P s) : P (s.processHolders p holders) := by
  unfold State.processHolders
  split
  · exact law.listedBy p h
  · exact law.unfollowed p s h

theorem digestFromUnknown {source : Nat} (places : List Nat) (d : Digest) (h : P s) (absent : s.entry source = none) :
    P (s.digestFromUnknown source places d) := by
  unfold State.digestFromUnknown
  split
  · exact h
  · split
    · exact law.processHolders _ _ (law.enrolled _ _ _ s h absent (.inl ‹_›))
    · split
      · exact law.refused s h
      · rename_i old evict
        exact law.processHolders _ _ (law.enrolled _ _ _ _ (law.removed _ s h) (removeEntry_absent absent)
          (.inr ⟨s, h, removeEntry_length (evictable_present evict)⟩))

theorem digestFromKnown (source : Nat) (places : List Nat) (d : Digest) (h : P s) :
    P (s.digestFromKnown source places d) := by
  unfold State.digestFromKnown
  split
  · exact law.removed _ s h
  · dsimp only
    apply law.processHolders
    split
    · exact law.unfollowed _ _ (law.refreshed _ _ _ s h)
    · exact law.refreshed _ _ _ s h

theorem takeDigest (source : Nat) (d : Digest) (h : P s) : P (s.takeDigest source d) := by
  unfold State.takeDigest
  split
  · exact h
  · split
    · exact law.duplicate s h
    · split
      · exact h
      · split
        · exact h
        · dsimp only
          split
          · exact law.digestFromKnown _ _ d h
          · rename_i absent
            exact law.digestFromUnknown _ d h (by simpa using absent)

theorem settleAge (p : Nat) (h : P s) : P (s.settleAge p) := by
  unfold State.settleAge
  split
  · exact h
  · split
    · exact law.removed p s h
    · split
      · exact law.unfollowed p s h
      · exact h

end DigestLaw

/-- A law kept by each element's step is kept by the fold. -/
theorem foldl_keeps {α : Type} {P : State → Prop} {f : State → α → State} (each : ∀ s a, P s → P (f s a)) (l : List α)
    {s : State} (h : P s) : P (l.foldl f s) := by
  induction l generalizing s with
  | nil => exact h
  | cons a l ih => exact ih (each s a h)

/-! ### The line while telegrams are taken -/

theorem courseLaw (l : Line) : DigestLaw fun s => l.Course s.line where
  refreshed _ _ _ _ h := h
  unfollowed p s h := h.trans (unfollow_work p s).frame.course
  follower p s h := h.trans (becomeFollower_work p s).frame.course
  removed p s h := h.trans (removeEntry_course p s)
  enrolled _ _ _ _ h _ _ := h
  refused _ h := h
  duplicate _ h := h

theorem takeQuery_course (source what start : Nat) (s : State) : s.line.Course (s.takeQuery source what start).line := by
  unfold State.takeQuery State.answerStatus State.answerList
  split
  · exact Line.submit_course _ _
  · split
    · exact Line.submit_course _ _
    · exact .refl _

theorem takeOne_course (s : State) (r : Received) : s.line.Course (s.takeOne r).line := by
  cases r with
  | digest source d => exact (courseLaw s.line).takeDigest source d (.refl _)
  | query source what start => exact takeQuery_course source what start s

theorem takeReceived_course (s : State) : Line.Course { s.line with received := [] } s.takeReceived.line :=
  foldl_keeps (P := fun u => Line.Course { s.line with received := [] } u.line)
    (fun u r h => h.trans (takeOne_course u r)) _ (.refl _)

theorem settleAge_course (s : State) (p : Nat) : s.line.Course (s.settleAge p).line :=
  (courseLaw s.line).settleAge p (.refl _)

/-! ### Entry to RUNNING and the warm restart, block by block -/

section
variable (s : State)

@[simp] theorem enterRunning_acq : s.enterRunning.acq = s.acq := rfl
@[simp] theorem enterRunning_eval : s.enterRunning.eval = { s.eval with firstEvaluation := true } := rfl
@[simp] theorem enterRunning_timers : s.enterRunning.timers = some (.start s.cfg) := rfl
@[simp] theorem enterRunning_locals :
    s.enterRunning.locals = s.locals.map fun x => { x with active := candidateActive s.cfg x.key } := rfl
@[simp] theorem enterRunning_table : s.enterRunning.table = s.table := rfl
@[simp] theorem enterRunning_line :
    s.enterRunning.line = { s.line with tracking := .searching, idle := false, restartPending := true } := rfl
@[simp] theorem enterRunning_report : s.enterRunning.report = s.report := rfl
@[simp] theorem enterRunning_loader : s.enterRunning.loader = { s.loader with station := .running, halt := .none } := rfl
@[simp] theorem enterRunning_pending : s.enterRunning.pending = s.pending := rfl

/-- The blocks at their values after a warm restart, before RUNNING is entered (R20, R36, R97, R157). -/
def State.warmed (s : State) : State :=
  { s with acq := .restart
           eval := { Evaluator.cold with sequence := s.eval.sequence, epoch := s.eval.epoch }
           table := .restart
           line := .restart s.line.draws
           loader := { s.loader with cause := .warmRequest } }

theorem State.warmRestart_eq : s.warmRestart = s.endAllCandidates.warmed.enterRunning := rfl

@[simp] theorem State.warmed_acq : s.warmed.acq = .restart := rfl
@[simp] theorem State.warmed_table : s.warmed.table = .restart := rfl
@[simp] theorem State.warmed_line : s.warmed.line = .restart s.line.draws := rfl
@[simp] theorem State.warmed_locals : s.warmed.locals = s.locals := rfl
@[simp] theorem State.warmed_report : s.warmed.report = s.report := rfl

end

/-! ### The completion -/

/-- The candidates scored, nothing handed over as yet (R63, R98). -/
def State.rescored (own : Summary) (s : State) : State :=
  (s.modLocals fun l => l.map (LocalCandidate.evaluate s.cfg s.acq.frozen s.eval.epochChanged)).modTable fun t =>
    { t with entries := t.entries.map (Entry.evaluate s.cfg.params.fightEffort own) }

theorem updateCandidates_frame (own : Summary) (s : State) : PairFrame (s.rescored own) (s.updateCandidates own) :=
  (PairFrame.foldl State.handLocal handLocal_frame _ _).trans
    (PairFrame.foldl _ (fun s (x : Nat × Handed) => handPair_frame s x.1 x.2) _ _)

@[simp] theorem Entry.evaluate_station (fight : Nat) (own : Summary) (e : Entry) :
    (e.evaluate fight own).station = e.station := by
  unfold Entry.evaluate Entry.checkReservation
  dsimp only
  split
  · split <;> rfl
  · rfl

theorem drain_fifo (c : Configuration) (a : Acquisition) (x : Sample) : (a.drain c x).fifo = a.fifo := by
  unfold Acquisition.drain
  dsimp only
  split <;> rfl

@[simp] theorem drainAll_fifo (c : Configuration) (a : Acquisition) : (a.drainAll c).fifo = [] := by
  have kept : ∀ (l : List Sample) (b : Acquisition), (l.foldl (Acquisition.drain c) b).fifo = b.fifo := by
    intro l
    induction l with
    | nil => exact fun _ => rfl
    | cons x l ih => exact fun b => (ih _).trans (drain_fifo c b x)
  exact kept _ _

/-- A law of candidates, table, line and report that the parts of the completion keep. -/
theorem completed_keeps {P : State → Prop} {s : State} (t : Nat) (judged : P s → P (s.judging t))
    (updated : ∀ u, P u → P (u.updateCandidates s.ownSummary)) (published : ∀ u, P u → P (u.publish s.ownSummary))
    (settled : ∀ u, P u → P u.applyHeld) (taken : ∀ u, P u → P u.takeReceived)
    (announced : ∀ u, P u → P u.queueFindings) (drained : ∀ u, P u → P (u.modAcq (.drainAll s.cfg))) (h : P s) :
    P (s.completed t) := by
  rw [State.completed_eq]
  exact drained _ (announced _ (taken _ (settled _ (published _ (updated _ (judged h))))))

/-! ### Score and state (R68) -/

theorem Kind.decay_le (k : Kind) : k.decay ≤ 64 := by
  cases k <;> decide

/-- No outcome takes more than 64 from a score, and none takes it past 1023 (R63, R64). -/
theorem nextScore_bounds (k : Kind) (v : Verdict) {score : Nat} (h : score ≤ 1023) :
    score ≤ nextScore k v score + 64 ∧ nextScore k v score ≤ 1023 := by
  have decay := k.decay_le
  cases v with
  | evidence g => rw [nextScore_evidence]; omega
  | noEvidence => rw [nextScore_noEvidence]; omega
  | notAssessable => rw [nextScore_notAssessable]; omega

/-- R68 survives every outcome: below CONFIRMED the transition test puts the score into its band, and CONFIRMED and
RECOVERING lie more than a decay above the bounds that the test does not look at. -/
theorem Scored.Banded.update {c : Scored} (h : c.Banded) (k : Kind) (v : Verdict) : (c.update k v).Banded := by
  obtain ⟨score, state, last⟩ := c
  obtain ⟨most, clear, suspect, confirmed, recovering⟩ := h
  obtain ⟨falls, cap⟩ := nextScore_bounds k v most
  refine ⟨cap, ?_⟩
  dsimp only [Scored.update] at *
  generalize nextScore k v score = new at *
  cases state with
  | clear => rw [nextState_clear]; split <;> simp <;> omega
  | suspect => rw [nextState_suspect]; split_ifs <;> simp <;> omega
  | confirmed =>
    have above := confirmed rfl
    rw [nextState_confirmed]; split <;> simp <;> omega
  | recovering => rw [nextState_recovering]; split_ifs <;> simp <;> omega

theorem Scored.Banded.keptOrSetBack {c d : Scored} (h : c.Banded) (k : c.KeptOrSetBack d) : d.Banded := by
  rcases k with rfl | rfl
  · exact h
  · simp [Scored.Banded]

theorem Scored.banded_clear (last : Option Verdict) : Scored.Banded ⟨0, .clear, last⟩ := by
  simp [Scored.Banded]

theorem LocalCandidate.evaluate_banded {x : LocalCandidate} (h : x.scored.Banded) (c : Configuration) (b : Bank)
    (changed : Bool) : (x.evaluate c b changed).scored.Banded := by
  unfold LocalCandidate.evaluate
  split
  · exact h.update _ _
  · exact h

theorem Entry.evaluate_banded {e : Entry} (h : e.pair.Banded) (fight : Nat) (own : Summary) :
    (e.evaluate fight own).pair.Banded := by
  refine Scored.Banded.update ?_ _ _
  unfold Entry.checkReservation
  split
  · split
    · exact h
    · exact Scored.banded_clear _
  · exact h

/-- Locals as before, and every entry's candidate as one before. -/
theorem State.CandidatesBanded.of_pairs {s t : State} (h : s.CandidatesBanded) (locals : t.locals = s.locals)
    (pairs : ∀ f ∈ t.table.entries, f.pair.Banded) : t.CandidatesBanded :=
  ⟨locals ▸ h.1, pairs⟩

theorem State.CandidatesBanded.frame {s t : State} (h : s.CandidatesBanded) (frame : PairFrame s t) :
    t.CandidatesBanded :=
  h.of_pairs frame.locals fun f hf => by
    obtain ⟨e, he, -, pair⟩ := frame.pairs f hf
    exact (h.2 e he).keptOrSetBack pair

theorem bandedLaw : DigestLaw State.CandidatesBanded where
  refreshed p _ _ s h := h.frame (.modEntry p s (fun _ => by rfl) fun _ => .inl (by rfl))
  unfollowed p s h := h.frame (unfollow_work p s).frame
  follower p s h := h.frame (becomeFollower_work p s).frame
  removed p s h := h.of_pairs (removeEntry_keepsCore p s).locals fun f hf => by
    rw [removeEntry_entries] at hf
    exact h.2 f (List.mem_filter.mp hf).1
  enrolled p places d s h _ _ := h.of_pairs rfl fun f hf => by
    rcases List.mem_append.mp hf with mem | new
    · exact h.2 f mem
    · obtain rfl := List.mem_singleton.mp new
      exact Scored.banded_clear _
  refused _ h := h
  duplicate _ h := h

theorem takeOne_banded (s : State) (r : Received) (h : s.CandidatesBanded) : (s.takeOne r).CandidatesBanded := by
  cases r with
  | digest source d => exact bandedLaw.takeDigest source d h
  | query source what start =>
    unfold State.takeOne State.takeQuery State.answerStatus State.answerList
    dsimp only
    split
    · exact h
    · split <;> exact h

theorem takeReceived_banded (s : State) (h : s.CandidatesBanded) : s.takeReceived.CandidatesBanded :=
  foldl_keeps takeOne_banded _ h

theorem updateCandidates_banded (own : Summary) (s : State) (h : s.CandidatesBanded) :
    (s.updateCandidates own).CandidatesBanded := by
  refine State.CandidatesBanded.frame ⟨fun x hx => ?_, fun e he => ?_⟩ (updateCandidates_frame own s)
  · obtain ⟨y, hy, rfl⟩ := List.mem_map.mp hx
    exact LocalCandidate.evaluate_banded (h.1 y hy) ..
  · obtain ⟨f, hf, rfl⟩ := List.mem_map.mp he
    exact Entry.evaluate_banded (h.2 f hf) ..

theorem localsCleared_banded : ∀ x ∈ localsCleared, x.scored.Banded := by
  intro x hx
  obtain ⟨k, -, rfl⟩ := List.mem_map.mp hx
  exact Scored.banded_clear _

theorem Move.banded {s t : State} (h : s.CandidatesBanded) (move : Move s t) : t.CandidatesBanded := by
  cases move with
  | cleared => exact ⟨localsCleared_banded, by simp [State.clearBlocks, NeighbourTable.restart]⟩
  | activity f =>
    refine ⟨fun x hx => ?_, h.2⟩
    obtain ⟨y, hy, rfl⟩ := List.mem_map.mp hx
    exact h.1 y hy
  | warm =>
    rw [State.warmRestart_eq]
    refine ⟨fun x hx => ?_, by simp [NeighbourTable.restart]⟩
    rw [enterRunning_locals, State.warmed_locals, (endAllCandidates_keepsCore s).locals] at hx
    obtain ⟨y, hy, rfl⟩ := List.mem_map.mp hx
    exact h.1 y hy
  | grown =>
    refine ⟨h.1, fun e he => ?_⟩
    obtain ⟨f, hf, rfl⟩ := List.mem_map.mp he
    exact h.2 f hf
  | settled p => exact bandedLaw.settleAge p h
  | completed t =>
    exact completed_keeps (P := State.CandidatesBanded) t (fun h => h) (updateCandidates_banded _) (fun _ h => h)
      (fun u h => h.frame (applyHeld_frame u))
      takeReceived_banded (fun _ h => h) (fun _ h => h) h
  | joinedTaken r => exact takeReceived_banded _ h
  | taken r rest => exact takeOne_banded _ r h
  | follower p => exact h.frame (becomeFollower_work p s).frame
  | outcome p o => exact h.frame (applyClaimOutcome_work p s o).frame
  | _ => exact h

/-- Settles O56: every move keeps score and state of every candidate in agreement. -/
theorem stepKeepsBands : Obligations.StepKeepsBands := fun _ _ h stepped =>
  step_keeps (P := State.CandidatesBanded) (fun _ _ => Move.banded) (fun _ h => h) (fun _ _ h => h) h stepped

/-! ### The bounds (R11, R81, R83, R141, R156) -/

theorem State.WithinCapacity.frame {s t : State} (h : s.WithinCapacity) (frame : PairFrame s t) : t.WithinCapacity := by
  obtain ⟨fifo, received, entries, window, timer⟩ := h
  exact ⟨frame.acq ▸ fifo, frame.course.received ▸ received, frame.length ▸ entries, frame.course.window window,
    frame.duplicateTimer ▸ timer⟩

/-- The bounds after a change of table and line. -/
theorem State.WithinCapacity.of_course {s t : State} (h : s.WithinCapacity) (core : KeepsCore s t)
    (course : s.line.Course t.line) (entries : t.table.entries.length ≤ 8) (timer : t.table.duplicateTimer ≤ 4) :
    t.WithinCapacity := by
  obtain ⟨fifo, received, -, window, -⟩ := h
  exact ⟨core.acq ▸ fifo, course.received ▸ received, entries, course.window window, timer⟩

theorem capacityLaw : DigestLaw State.WithinCapacity where
  refreshed p _ _ s h := h.frame (.modEntry p s (fun _ => by rfl) fun _ => .inl (by rfl))
  unfollowed p s h := h.frame (unfollow_work p s).frame
  follower p s h := h.frame (becomeFollower_work p s).frame
  removed p s h := by
    obtain ⟨-, -, entries, -, timer⟩ := id h
    refine h.of_course (removeEntry_keepsCore p s) (removeEntry_course p s) ?_ ?_
    · rw [removeEntry_entries]
      exact (List.length_filter_le _ _).trans entries
    · rwa [removeEntry_duplicateTimer]
  enrolled p places d s h _ room := by
    obtain ⟨fifo, received, -, window, timer⟩ := h
    have room : s.table.entries.length < 8 := by
      rcases room with room | ⟨u, ⟨-, -, full, -, -⟩, fewer⟩
      · exact room
      · omega
    refine ⟨fifo, received, ?_, window, timer⟩
    simpa [State.enrol] using room
  refused _ h := h
  duplicate s h := by
    obtain ⟨fifo, received, entries, window, -⟩ := h
    exact ⟨fifo, received, entries, window, le_refl 4⟩

theorem takeOne_capacity (s : State) (r : Received) (h : s.WithinCapacity) : (s.takeOne r).WithinCapacity := by
  cases r with
  | digest source d => exact capacityLaw.takeDigest source d h
  | query source what start =>
    refine h.of_course (takeQuery_keepsCore ..) (takeQuery_course ..) ?_ ?_ <;>
    · unfold State.takeOne State.takeQuery State.answerStatus State.answerList
      dsimp only
      obtain ⟨-, -, entries, -, timer⟩ := h
      split
      · assumption
      · split <;> assumption

theorem takeReceived_capacity (s : State) (h : s.acq.fifo.length ≤ 12) (entries : s.table.entries.length ≤ 8)
    (window : s.line.WindowLawful) (timer : s.table.duplicateTimer ≤ 4) : s.takeReceived.WithinCapacity :=
  foldl_keeps takeOne_capacity _ ⟨h, Nat.zero_le _, entries, window, timer⟩

theorem updateCandidates_capacity (own : Summary) (s : State) (h : s.WithinCapacity) :
    (s.updateCandidates own).WithinCapacity := by
  refine State.WithinCapacity.frame ?_ (updateCandidates_frame own s)
  obtain ⟨fifo, received, entries, window, timer⟩ := h
  exact ⟨fifo, received, by simpa [State.rescored] using entries, window, timer⟩

theorem Move.capacity {s t : State} (h : s.WithinCapacity) (move : Move s t) : t.WithinCapacity := by
  obtain ⟨fifo, received, entries, window, timer⟩ := id h
  cases move with
  | cleared => exact ⟨Nat.zero_le _, Nat.zero_le _, Nat.zero_le _, by simp [State.clearBlocks, Line.restart], Nat.zero_le _⟩
  | warm =>
    rw [State.warmRestart_eq]
    simp [State.WithinCapacity, Acquisition.restart, NeighbourTable.restart, Line.restart]
  | scanning f _ same => exact ⟨by simpa [same] using fifo, received, entries, window, timer⟩
  | sampled x _ room => exact ⟨by simpa [Acquisition.push] using room, received, entries, window, timer⟩
  | drained x => exact ⟨by simp, received, entries, window, timer⟩
  | grown => exact ⟨fifo, received, by simpa using entries, window, timer⟩
  | settled p => exact capacityLaw.settleAge p h
  | ticked => exact ⟨fifo, received, entries, window, (Nat.sub_le _ _).trans timer⟩
  | completed t =>
    refine completed_keeps (P := State.WithinCapacity) t (fun h => h) (updateCandidates_capacity _) (fun u h => ?_)
      (fun u h => h.frame (applyHeld_frame u))
      (fun u ⟨fifo, _, entries, window, timer⟩ => takeReceived_capacity u fifo entries window timer)
      (fun u h => h.frame (queueFindings_frame u)) (fun u h => ?_) h
    · exact State.WithinCapacity.frame (s := u.modEval fun e => { e with summary := some s.ownSummary }) h
        (.of_table (publish_keepsAll _ u) rfl u.line.submitDigest_course)
    · obtain ⟨-, received, entries, window, timer⟩ := h
      exact ⟨by simp, received, entries, window, timer⟩
  | line f _ quiet => exact ⟨fifo, quiet.received ▸ received, entries, quiet.window window, timer⟩
  | joined r _ room => exact ⟨fifo, by simpa using room, entries, window, timer⟩
  | joinedTaken r _ room => exact takeReceived_capacity _ fifo entries window timer
  | taken r rest _ head =>
    refine takeOne_capacity _ r ⟨fifo, ?_, entries, window, timer⟩
    simp only [State.popReceived, State.modLine_line, head, List.tail_cons]
    rw [head] at received
    exact (Nat.le_succ _).trans received
  | follower p => exact h.frame (becomeFollower_work p s).frame
  | outcome p o => exact h.frame (applyClaimOutcome_work p s o).frame
  | announced => exact h.frame (queueFindings_frame s)
  | _ => exact h

/-! ### Nothing waits outside an evaluation (R11, R28, R156) -/

theorem State.NothingWaits.of_course {s t : State} (h : s.NothingWaits) (core : KeepsCore s t)
    (course : s.line.Course t.line) : t.NothingWaits := by
  intro ended
  obtain ⟨fifo, held, received⟩ := h (core.eval ▸ ended)
  have none_held := course.held
  rw [held] at none_held
  exact ⟨core.acq ▸ fifo, List.sublist_nil.mp none_held, course.received.trans received⟩

theorem State.NothingWaits.frame {s t : State} (h : s.NothingWaits) (frame : PairFrame s t) : t.NothingWaits :=
  h.of_course frame.toKeepsCore frame.course

theorem takeReceived_received (s : State) : s.takeReceived.line.received = [] := (takeReceived_course s).received

theorem applyHeld_held (s : State) : s.applyHeld.line.held = [] :=
  List.sublist_nil.mp (PairFrame.foldl (fun s (h : HeldOutcome) => s.applyClaimOutcome h.peer h.outcome)
    (fun s h => (applyClaimOutcome_work h.peer s h.outcome).frame) s.line.held
      (s.modLine fun l => { l with held := [] })).course.held

theorem completed_line (t : Nat) (s : State) : (s.completed t).line.held = [] ∧ (s.completed t).line.received = [] := by
  rw [State.completed_eq, State.modAcq_line]
  generalize ((s.judging t).updateCandidates s.ownSummary).publish s.ownSummary = u
  have announced := (queueFindings_frame u.applyHeld.takeReceived).course
  have taken := takeReceived_course u.applyHeld
  refine ⟨List.sublist_nil.mp (announced.held.trans (taken.held.trans ?_)), announced.received.trans taken.received⟩
  exact (applyHeld_held u).symm ▸ .refl _

theorem Move.nothingWaits {s t : State} (h : s.NothingWaits) (move : Move s t) : t.NothingWaits := by
  cases move with
  | cleared => exact fun _ => ⟨rfl, rfl, rfl⟩
  | warm =>
    rw [State.warmRestart_eq]
    simp [State.NothingWaits, Acquisition.restart, Line.restart]
  | marks f _ same => exact fun ended => h (same ▸ ended)
  | evaluation f _ begun => exact fun ended => absurd ended begun
  | scanning f _ same => exact fun ended => by simpa [same] using h ended
  | sampled x _ room waits => exact fun ended => by simp [State.evaluating, show s.eval.inFlight = none from ended] at waits
  | drained x => exact fun ended => ⟨by simp, (h ended).2⟩
  | settled p => exact h.of_course (settleAge_keepsCore s p) (settleAge_course s p)
  | completed t => exact fun _ => ⟨by simp [State.completed], completed_line t s⟩
  | line f _ quiet => exact fun ended => ⟨(h ended).1, quiet.held ▸ (h ended).2.1, quiet.received ▸ (h ended).2.2⟩
  | joined r _ room _ waits =>
    exact fun ended => by simp [State.evaluating, show s.eval.inFlight = none from ended] at waits
  | joinedTaken r =>
    intro ended
    have core := takeReceived_keepsCore (s.modLine fun l => { l with received := l.received ++ [r] })
    have course := takeReceived_course (s.modLine fun l => { l with received := l.received ++ [r] })
    obtain ⟨fifo, held, -⟩ := h (core.eval ▸ ended)
    refine ⟨core.acq ▸ fifo, List.sublist_nil.mp (course.held.trans ?_), course.received⟩
    exact held ▸ .refl _
  | taken r rest =>
    refine State.NothingWaits.of_course (s := s.popReceived) (fun ended => ?_) (takeOne_keepsCore _ r) (takeOne_course _ r)
    obtain ⟨fifo, held, received⟩ := h ended
    exact ⟨fifo, held, by simp [State.popReceived, received]⟩
  | follower p => exact h.frame (becomeFollower_work p s).frame
  | held _ _ waits => exact fun ended => by simp [State.evaluating, show s.eval.inFlight = none from ended] at waits
  | outcome p o => exact h.frame (applyClaimOutcome_work p s o).frame
  | announced => exact h.frame (queueFindings_frame s)
  | _ => exact h

/-- Settles O57: every move keeps the bounds, and every move outside an evaluation leaves nothing waiting. -/
theorem stepKeepsCapacity : Obligations.StepKeepsCapacity :=
  ⟨fun _ _ h stepped => step_keeps (P := State.WithinCapacity) (fun _ _ => Move.capacity) (fun _ h => h)
    (fun _ _ h => h) h stepped,
   fun _ _ h stepped => step_keeps (P := State.NothingWaits) (fun _ _ => Move.nothingWaits) (fun _ h => h)
    (fun _ _ h => h) h stepped⟩

end Sys2Proof.Machine
end

/-! What each operation on a pair makes of its entry, where a station has one entry (R81); the law of ownership (O58). -/

section
namespace Sys2Proof.Machine

/-! ### Changing one entry -/

theorem NeighbourTable.update_congr {t : NeighbourTable} {p : Nat} {f g : Entry → Entry}
    (same : ∀ e ∈ t.entries, e.station = p → f e = g e) : t.update p f = t.update p g := by
  simp only [NeighbourTable.update]
  congr 1
  refine List.map_congr_left fun e he => ?_
  split
  · rename_i h
    exact same e he (by simpa using h)
  · rfl

theorem NeighbourTable.update_eq_self {t : NeighbourTable} {p : Nat} {f : Entry → Entry}
    (same : ∀ e ∈ t.entries, e.station = p → f e = e) : t.update p f = t := by
  rw [NeighbourTable.update_congr same]
  simp [NeighbourTable.update]

theorem NeighbourTable.update_update (t : NeighbourTable) (p : Nat) {f g : Entry → Entry}
    (station : ∀ e, (f e).station = e.station) : (t.update p f).update p g = t.update p (g ∘ f) := by
  simp only [NeighbourTable.update, List.map_map]
  congr 1
  refine List.map_congr_left fun e _ => ?_
  by_cases h : e.station = p <;> simp [h, station]

/-- R81: the entry of a station is the one that stands for it. -/
theorem State.StationsDistinct.entry_eq {s : State} (distinct : s.StationsDistinct) {e : Entry}
    (mem : e ∈ s.table.entries) : s.entry e.station = some e := by
  have inj := List.inj_on_of_nodup_map distinct
  cases h : s.entry e.station with
  | none => exact absurd rfl (State.entry_eq_none_iff.mp h e mem)
  | some f =>
    obtain ⟨mem', station⟩ := State.entry_spec h
    rw [inj mem' mem station]

theorem State.StationsDistinct.eq_of_entry {s : State} (distinct : s.StationsDistinct) {p : Nat} {e f : Entry}
    (h : s.entry p = some e) (mem : f ∈ s.table.entries) (station : f.station = p) : f = e := by
  have found := distinct.entry_eq mem
  rw [station, h] at found
  exact (Option.some.inj found).symm

/-- A change made where the entry of the station meets a test is a change of that entry under the test. -/
theorem State.StationsDistinct.update_if {s : State} (distinct : s.StationsDistinct) (p : Nat) (test : Entry → Bool)
    (f : Entry → Entry) :
    (if (s.entry p).any test then s.table.update p f else s.table)
      = s.table.update p fun e => if test e then f e else e := by
  cases h : s.entry p with
  | none =>
    have absent := State.entry_eq_none_iff.mp h
    simp only [Option.any_none, Bool.false_eq_true, if_false]
    exact (NeighbourTable.update_eq_self fun e he station => absurd station (absent e he)).symm
  | some x =>
    simp only [Option.any_some]
    split
    · rename_i passed
      exact NeighbourTable.update_congr fun e he station => by
        rw [distinct.eq_of_entry h he station, passed, if_pos rfl]
    · rename_i failed
      exact (NeighbourTable.update_eq_self fun e he station => by
        rw [distinct.eq_of_entry h he station, if_neg failed]).symm

/-- The change of the one entry of a station, in its place. -/
theorem NeighbourTable.update_split {before after : List Entry} {e : Entry}
    (distinct : ((before ++ e :: after).map Entry.station).Nodup) (f : Entry → Entry) :
    ((before ++ e :: after).map fun x => if x.station == e.station then f x else x) = before ++ f e :: after := by
  rw [List.map_append, List.map_cons, List.nodup_append] at distinct
  obtain ⟨-, own, apart⟩ := distinct
  have others : ∀ l : List Entry, (∀ x ∈ l, x.station ≠ e.station) →
      (l.map fun x => if x.station == e.station then f x else x) = l := fun l h => by
    conv_rhs => rw [← List.map_id l]
    exact List.map_congr_left fun x hx => by simp [h x hx]
  rw [List.map_append, List.map_cons, others before fun x hx =>
      apart _ (List.mem_map_of_mem hx) _ (List.mem_cons_self ..),
    others after fun x hx same => (List.nodup_cons.mp own).1 (same ▸ List.mem_map_of_mem hx), if_pos (by simp)]

/-- A fold that keeps an invariant of what is done and what is left. -/
theorem foldl_split {α : Type} {P : List α → List α → State → Prop} {f : State → α → State}
    (each : ∀ done a rest s, P done (a :: rest) s → P (done ++ [a]) rest (f s a)) (l : List α) {s : State}
    (h : P [] l s) : P l [] (l.foldl f s) := by
  have general : ∀ (rest done : List α) (s : State), P done rest s → P (done ++ rest) [] (rest.foldl f s) := by
    intro rest
    induction rest with
    | nil => exact fun done s h => by simpa using h
    | cons a rest ih => exact fun done s h => by simpa using ih _ _ (each done a rest s h)
  simpa using general l [] s h

/-! ### What becomes of an entry -/

/-- The conditions of R116 tested on an entry. -/
def Entry.claim (running : Bool) (e : Entry) : Entry :=
  if running && e.pair.state.confirmedOrRecovering && e.ownership == .unheld then
    { e with ownership := .claiming, claimAttempts := 0 }
  else e

/-- The claim of a CLAIMING entry withdrawn (R119). -/
def Entry.dropClaim (e : Entry) : Entry := if e.ownership == .claiming then { e with claimAttempts := 0 } else e

/-- FOLLOWER, a pending claim withdrawn (R123, R131). -/
def Entry.follow (e : Entry) : Entry := { e.dropClaim with ownership := .follower }

/-- UNHELD, at which instant R116 is tested. -/
def Entry.unhold (running : Bool) (e : Entry) : Entry := Entry.claim running { e with ownership := .unheld }

/-- A FOLLOWER made UNHELD (R87, R94, R132). -/
def Entry.unfollow (running : Bool) (e : Entry) : Entry := if e.ownership == .follower then e.unhold running else e

/-- A claim settled as HOLDER (R126, R127). -/
def Entry.settle (e : Entry) : Entry := { e with ownership := .holder, claimAttempts := 0 }

/-- A claim answered STALE (R72, R100, R128). -/
def Entry.setBack (epoch : Byte) (e : Entry) : Entry :=
  { e with pair := { e.pair with score := 256, state := .suspect }, ownership := .unheld, claimAttempts := 0
           reservedOwn := epoch, reservedPeer := e.lastDigest.epoch }

/-- One more attempt of a claim counted (R125). -/
def Entry.count (e : Entry) : Entry := { e with claimAttempts := e.claimAttempts + 1 }

/-- One more attempt of a claim; the sixteenth settles it (R125, R127). -/
def Entry.retry (e : Entry) : Entry := if 16 ≤ e.claimAttempts + 1 then e.settle else e.count

/-- An outcome of a claim (R124). -/
def Entry.outcome (epoch : Byte) (o : AttemptEnd) (e : Entry) : Entry :=
  if e.ownership == .claiming then
    match o with
    | .concur => e.settle
    | .noMark => e.settle
    | .stale => e.setBack epoch
    | .repeatMark => e.retry
    | .contentionLoss => e.retry
  else e

/-- The own number in a holder list of station `p` (R131). -/
def Entry.listed (own p : Nat) (e : Entry) : Entry :=
  match e.ownership with
  | .unheld => e.follow
  | .claiming => e.follow
  | .follower => e
  | .holder => if own < p then e else e.follow

/-- A holder list of station `p` (R131, R132). -/
def Entry.heed (running : Bool) (own p : Nat) (holders : List Nat) (e : Entry) : Entry :=
  if holders.contains own then e.listed own p else e.unfollow running

/-- An ownership released with its candidate (R133). -/
def Entry.release (e : Entry) : Entry :=
  if e.ownership == .holder || e.ownership == .claiming then { e.dropClaim with ownership := .unheld } else e

/-- The pair coordinator on a transition (R133, R116). -/
def Entry.coordinate (running : Bool) (before after : CandState) (e : Entry) : Entry :=
  Entry.claim running (if before = .recovering ∧ after = .clear then e.release else e)

section
variable (e : Entry) (running : Bool) (epoch : Byte)

@[simp] theorem Entry.count_station : e.count.station = e.station := rfl
@[simp] theorem Entry.claim_station : (e.claim running).station = e.station := by unfold Entry.claim; split <;> rfl
@[simp] theorem Entry.claim_pair : (e.claim running).pair = e.pair := by unfold Entry.claim; split <;> rfl
@[simp] theorem Entry.dropClaim_station : e.dropClaim.station = e.station := by unfold Entry.dropClaim; split <;> rfl
@[simp] theorem Entry.dropClaim_pair : e.dropClaim.pair = e.pair := by unfold Entry.dropClaim; split <;> rfl
@[simp] theorem Entry.dropClaim_ownership : e.dropClaim.ownership = e.ownership := by
  unfold Entry.dropClaim; split <;> rfl
@[simp] theorem Entry.follow_station : e.follow.station = e.station := e.dropClaim_station
@[simp] theorem Entry.follow_ownership : e.follow.ownership = .follower := rfl
@[simp] theorem Entry.release_station : e.release.station = e.station := by
  unfold Entry.release
  split
  · exact e.dropClaim_station
  · rfl
@[simp] theorem Entry.release_pair : e.release.pair = e.pair := by
  unfold Entry.release
  split
  · exact e.dropClaim_pair
  · rfl
@[simp] theorem Entry.coordinate_station (before after : CandState) :
    (e.coordinate running before after).station = e.station := by
  unfold Entry.coordinate; split <;> simp

end

/-! ### When the operations act -/

section
variable {s : State} {p : Nat} {e : Entry}

theorem testClaim_of_absent (absent : s.entry p = none) : s.testClaim p = s := by simp only [State.testClaim, absent]

theorem testClaim_of_entry (found : s.entry p = some e) :
    s.testClaim p =
      if s.running && e.pair.state.confirmedOrRecovering && e.ownership == .unheld then
        ((s.modLine (.submit (.claim p))).modEntry p fun e =>
          { e with ownership := .claiming, claimAttempts := 0 }).recordClaiming p
      else s := by
  simp only [State.testClaim, found]

/-- The line controller after the withdrawal of a claim (R119). -/
def Line.dropClaim (p : Nat) (l : Line) : Line :=
  { l.withdraw (.claim p) with held := l.held.filter fun h => h.peer != p }

theorem withdrawIfClaiming_line (p : Nat) (s : State) :
    (s.withdrawIfClaiming p).line
      = if (s.entry p).any (fun e => e.ownership == .claiming) then s.line.dropClaim p else s.line := by
  unfold State.withdrawIfClaiming
  split <;> rfl

theorem endCandidate_line (e : Entry) (s : State) : (s.endCandidate e).line = s.line := by
  unfold State.endCandidate
  split <;> rfl

theorem removeEntry_line (p : Nat) (s : State) : (s.removeEntry p).line = (s.withdrawIfClaiming p).line := by
  unfold State.removeEntry
  split
  · rename_i absent
    rw [withdrawIfClaiming_line, absent]
    rfl
  · rw [State.modTable_line, withdrawIfClaiming_line, withdrawIfClaiming_line, endCandidate_line, State.entry,
      endCandidate_table]
    rfl

theorem removeEntry_entry (p q : Nat) (s : State) :
    (s.removeEntry p).entry q = if q = p then none else s.entry q := by
  rw [State.entry, NeighbourTable.find, removeEntry_entries, List.find?_filter]
  split
  · rename_i same
    subst same
    simp
  · rename_i other
    rw [State.entry, NeighbourTable.find]
    congr 1
    funext e
    by_cases here : e.station = q <;> simp [here, other]

end

/-! ### What the operations make of the table -/

section
variable {s : State} (distinct : s.StationsDistinct) (p : Nat)

include distinct

theorem testClaim_table : (s.testClaim p).table = s.table.update p (Entry.claim s.running) := by
  refine Eq.trans ?_ (distinct.update_if p
    (fun e => s.running && e.pair.state.confirmedOrRecovering && e.ownership == .unheld)
    fun e => { e with ownership := .claiming, claimAttempts := 0 })
  cases found : s.entry p with
  | none => rw [testClaim_of_absent found]; rfl
  | some e =>
    rw [testClaim_of_entry found, Option.any_some]
    split <;> rfl

theorem withdrawIfClaiming_table : (s.withdrawIfClaiming p).table = s.table.update p Entry.dropClaim := by
  refine Eq.trans ?_ (distinct.update_if p (fun e => e.ownership == .claiming) fun e => { e with claimAttempts := 0 })
  unfold State.withdrawIfClaiming
  split <;> rfl

omit distinct in
theorem recordFollows_table (p : Nat) (s : State) : (s.recordFollows p).table = s.table := by
  unfold State.recordFollows
  dsimp only
  split <;> rfl

theorem becomeFollower_table : (s.becomeFollower p).table = s.table.update p Entry.follow := by
  unfold State.becomeFollower
  rw [recordFollows_table]
  refine (congrArg (NeighbourTable.update p _) (withdrawIfClaiming_table distinct p)).trans ?_
  exact s.table.update_update p Entry.dropClaim_station

theorem becomeUnheld_table : (s.becomeUnheld p).table = s.table.update p (Entry.unhold s.running) := by
  have frame : PairFrame s (s.modEntry p fun e => { e with ownership := .unheld }) :=
    .modEntry p s (fun _ => by rfl) fun _ => .inl (by rfl)
  have kept := frame.stationsDistinct distinct
  exact (testClaim_table kept p).trans (s.table.update_update p fun _ => rfl)

theorem unfollow_table : (s.unfollow p).table = s.table.update p (Entry.unfollow s.running) := by
  refine Eq.trans ?_ (distinct.update_if p (fun e => e.ownership == .follower) (Entry.unhold s.running))
  unfold State.unfollow
  split
  · exact becomeUnheld_table distinct p
  · rfl

omit distinct in
theorem settleHolder_table (p : Nat) (corroborated : Bool) (s : State) :
    (s.settleHolder p corroborated).table = s.table.update p Entry.settle := rfl

omit distinct in
theorem settleStale_table (p : Nat) (s : State) :
    (s.settleStale p).table = s.table.update p (Entry.setBack s.eval.epoch) := rfl

/-- The claim attempt counted, before the sixteenth settles the claim. -/
theorem claimRetry_table (lost : Bool) : (s.claimRetry p lost).table = s.table.update p Entry.retry := by
  have counted : ∀ u : State, u.table = s.table.update p Entry.count →
      (if (u.entry p).any (fun e => 16 ≤ e.claimAttempts) then (u.settleHolder p false).flagTelegramDiscarded
        else u).table = s.table.update p Entry.retry := by
    intro u table
    have kept : u.StationsDistinct := by
      rw [State.StationsDistinct, table, NeighbourTable.stations_update _ _ _ Entry.count_station]
      exact distinct
    have settled := kept.update_if p (fun e => decide (16 ≤ e.claimAttempts)) Entry.settle
    calc _ = (if (u.entry p).any (fun e => 16 ≤ e.claimAttempts) then u.table.update p Entry.settle else u.table) := by
          split <;> rfl
      _ = _ := settled
      _ = _ := by rw [table, NeighbourTable.update_update _ _ Entry.count_station]
      _ = _ := congrArg (fun f => s.table.update p f) <| funext fun e => by
          simp only [Function.comp, decide_eq_true_eq, Entry.retry]
          rfl
  unfold State.claimRetry
  dsimp only
  apply counted
  split <;> rfl

theorem applyClaimOutcome_table (o : AttemptEnd) :
    (s.applyClaimOutcome p o).table = s.table.update p (Entry.outcome s.eval.epoch o) := by
  refine Eq.trans ?_ (distinct.update_if p (fun e => e.ownership == .claiming) (match o with
    | .concur => Entry.settle
    | .noMark => Entry.settle
    | .stale => Entry.setBack s.eval.epoch
    | .repeatMark => Entry.retry
    | .contentionLoss => Entry.retry)) |>.trans (congrArg (fun f => s.table.update p f) ?_)
  · unfold State.applyClaimOutcome
    split
    · cases o with
      | repeatMark => exact claimRetry_table distinct p false
      | contentionLoss => exact claimRetry_table distinct p true
      | stale => rfl
      | concur => rfl
      | noMark => rfl
    · rfl
  · funext e
    cases o <;> rfl

theorem listedBy_table : (s.listedBy p).table = s.table.update p (Entry.listed s.own p) := by
  have followed : ∀ {e : Entry}, s.entry p = some e → e.listed s.own p = e.follow →
      s.table.update p Entry.follow = s.table.update p (Entry.listed s.own p) := fun h same =>
    NeighbourTable.update_congr fun f hf station => by rw [distinct.eq_of_entry h hf station, same]
  have kept : ∀ {e : Entry}, s.entry p = some e → e.listed s.own p = e →
      s.table = s.table.update p (Entry.listed s.own p) := fun h same =>
    (NeighbourTable.update_eq_self fun f hf station => by rw [distinct.eq_of_entry h hf station, same]).symm
  unfold State.listedBy
  split
  · rename_i absent
    exact (NeighbourTable.update_eq_self fun f hf station =>
      absurd station (State.entry_eq_none_iff.mp absent f hf)).symm
  · rename_i e present
    split
    · exact (becomeFollower_table distinct p).trans (followed present (by simp [Entry.listed, *]))
    · exact (becomeFollower_table distinct p).trans (followed present (by simp [Entry.listed, *]))
    · exact kept present (by simp [Entry.listed, *])
    · split
      · exact kept present (by simp [Entry.listed, *])
      · exact (becomeFollower_table distinct p).trans (followed present (by simp [Entry.listed, *]))

theorem processHolders_table (holders : List Nat) :
    (s.processHolders p holders).table = s.table.update p (Entry.heed s.running s.own p holders) := by
  unfold State.processHolders
  split
  · rename_i named
    rw [listedBy_table distinct]
    exact congrArg (fun f => s.table.update p f) (funext fun e => by rw [Entry.heed, if_pos named])
  · rename_i unnamed
    rw [unfollow_table distinct]
    exact congrArg (fun f => s.table.update p f) (funext fun e => by rw [Entry.heed, if_neg unnamed])

/-- The state in which the pair coordinator tests R116 on a transition to CLEAR: an ownership released with its
candidate (R133). -/
def State.released (p : Nat) (s : State) : State :=
  if (s.entry p).any (fun e => e.ownership == .holder || e.ownership == .claiming) then
    (s.withdrawIfClaiming p).modEntry p fun e => { e with ownership := .unheld }
  else s.withdrawIfClaiming p

omit distinct in
theorem coordinate_of_clears (p : Nat) (s : State) : s.coordinate p .recovering .clear = (s.released p).testClaim p := rfl

omit distinct in
theorem coordinate_of_stays {before after : CandState} (stays : ¬(before = .recovering ∧ after = .clear)) (p : Nat)
    (s : State) : s.coordinate p before after = s.testClaim p := by
  unfold State.coordinate
  dsimp only
  split
  · exact absurd ⟨rfl, rfl⟩ stays
  · rfl

omit distinct in
theorem released_work (p : Nat) (s : State) : PairWork p s (s.released p) := by
  unfold State.released
  split
  · exact (withdrawIfClaiming_work p s).trans (.modEntry _ (fun _ => by rfl) fun _ => .inl (by rfl))
  · exact withdrawIfClaiming_work p s

omit distinct in
theorem released_line (p : Nat) (s : State) : (s.released p).line = (s.withdrawIfClaiming p).line := by
  unfold State.released
  split <;> rfl

theorem released_table : (s.released p).table = s.table.update p Entry.release := by
  unfold State.released
  refine Eq.trans ?_ (distinct.update_if p (fun e => e.ownership == .holder || e.ownership == .claiming)
    fun e => { e.dropClaim with ownership := .unheld })
  split
  · refine (congrArg (NeighbourTable.update p _) (withdrawIfClaiming_table distinct p)).trans ?_
    exact s.table.update_update p Entry.dropClaim_station
  · rename_i free
    rw [withdrawIfClaiming_table distinct]
    refine NeighbourTable.update_eq_self fun e he station => ?_
    have found := distinct.entry_eq he
    rw [station] at found
    rw [found] at free
    simp only [Option.any_some, Bool.or_eq_true, not_or] at free
    rw [Entry.dropClaim, if_neg free.2]

theorem coordinate_table (before after : CandState) :
    (s.coordinate p before after).table = s.table.update p (Entry.coordinate s.running before after) := by
  by_cases clears : before = .recovering ∧ after = .clear
  · obtain ⟨rfl, rfl⟩ := clears
    have frame := (released_work p s).frame
    rw [coordinate_of_clears]
    refine (testClaim_table (frame.stationsDistinct distinct) p).trans ?_
    rw [released_table distinct, frame.running]
    exact s.table.update_update p Entry.release_station
  · rw [coordinate_of_stays clears, testClaim_table distinct]
    exact congrArg (fun f => s.table.update p f) (funext fun e => by rw [Entry.coordinate, if_neg clears])

omit distinct in
theorem reportTransition_table (k : Key) (before after : CandState) (score : Nat) (holder : Holder) (announced : Bool)
    (s : State) : (s.reportTransition k before after score holder announced).table = s.table := by
  unfold State.reportTransition
  split <;> rfl

omit distinct in
theorem handLocal_table (s : State) (h : Handed) : (s.handLocal h).table = s.table := by
  unfold State.handLocal
  dsimp only
  split
  · exact reportTransition_table ..
  · exact reportTransition_table ..

theorem handPair_table (h : Handed) :
    (s.handPair p h).table = s.table.update p (Entry.coordinate s.running h.before h.after) := by
  rw [← coordinate_table distinct]
  unfold State.handPair
  dsimp only
  split
  · exact reportTransition_table ..
  · exact reportTransition_table ..

end

/-! ### The whole update of the candidates -/

/-- One entry at an evaluation, its transition handed to the pair coordinator (R98, R133). -/
def Entry.evaluated (running : Bool) (fight : Nat) (own : Summary) (e : Entry) : Entry :=
  (e.evaluate fight own).coordinate running (e.testedFrom own.epoch) (e.evaluate fight own).pair.state

@[simp] theorem Entry.evaluated_station (running : Bool) (fight : Nat) (own : Summary) (e : Entry) :
    (e.evaluated running fight own).station = e.station := by
  simp [Entry.evaluated]

theorem rescored_stations (own : Summary) (s : State) :
    (s.rescored own).table.entries.map Entry.station = s.table.entries.map Entry.station := by
  simp [State.rescored, Function.comp_def]

/-- What the update of the candidates hands over for one entry. -/
def Entry.handed (fight : Nat) (own : Summary) (e : Entry) : Handed :=
  { key := pairKey e.station, before := e.testedFrom own.epoch, after := (e.evaluate fight own).pair.state
    score := (e.evaluate fight own).pair.score }

/-- What the update of the candidates hands over for one local candidate. -/
def LocalCandidate.handed (c : Configuration) (b : Bank) (changed : Bool) (x : LocalCandidate) : Handed :=
  { key := x.key, before := x.scored.state, after := (x.evaluate c b changed).scored.state
    score := (x.evaluate c b changed).scored.score }

/-- The update of the candidates, as a run over the local candidates and then over the entries. -/
theorem updateCandidates_eq (own : Summary) (s : State) :
    s.updateCandidates own =
      s.table.entries.foldl (fun u e => u.handPair e.station (e.handed s.cfg.params.fightEffort own))
        (s.locals.foldl (fun u x => u.handLocal (x.handed s.cfg s.acq.frozen s.eval.epochChanged)) (s.rescored own)) := by
  unfold State.updateCandidates localHandover pairHandover
  simp only [List.foldl_map]
  rfl

/-- The report unit's part of the update leaves the table alone. -/
theorem localsHanded_table (c : Configuration) (b : Bank) (changed : Bool) (l : List LocalCandidate) (s : State) :
    (l.foldl (fun u x => u.handLocal (x.handed c b changed)) s).table = s.table := by
  induction l generalizing s with
  | nil => rfl
  | cons x l ih => exact (ih _).trans (handLocal_table s _)

theorem localsHanded_frame (c : Configuration) (b : Bank) (changed : Bool) (l : List LocalCandidate) (s : State) :
    PairFrame s (l.foldl (fun u x => u.handLocal (x.handed c b changed)) s) :=
  .foldl _ (fun u _ => handLocal_frame u _) _ _

/-- The table on the way through the entries: those handed over evaluated and coordinated, the others evaluated alone. -/
theorem pairsHanded_table (own : Summary) {s u : State} (distinct : s.StationsDistinct) (frame : PairFrame (s.rescored own) u)
    (table : u.table = (s.rescored own).table) {pre post : List Entry} (split : pre ++ post = s.table.entries) :
    let v := pre.foldl (fun u e => u.handPair e.station (e.handed s.cfg.params.fightEffort own)) u
    PairFrame u v ∧ v.table = { s.table with
      entries := pre.map (Entry.evaluated s.running s.cfg.params.fightEffort own)
        ++ post.map (Entry.evaluate s.cfg.params.fightEffort own) } := by
  have kept : ∀ v, PairFrame u v → v.StationsDistinct := fun v h => by
    rw [State.StationsDistinct, (frame.trans h).stations, rescored_stations]
    exact distinct
  let left := fun rest : List Entry => (rest ++ post).map (Entry.evaluate s.cfg.params.fightEffort own)
  let made := fun done : List Entry => done.map (Entry.evaluated s.running s.cfg.params.fightEffort own)
  have begun : u.table = { s.table with entries := made [] ++ left pre } := by
    rw [table]
    simp only [made, left, split]
    rfl
  refine foldl_split (P := fun done rest v => PairFrame u v ∧ v.table = { s.table with entries := made done ++ left rest })
    (fun done e rest v ⟨h, now⟩ => ⟨h.trans (handPair_frame ..), ?_⟩) pre ⟨.refl u, begun⟩
  have distinct_v := kept v h
  rw [handPair_table distinct_v, (frame.trans h).running, now]
  rw [State.StationsDistinct, now] at distinct_v
  have changed := NeighbourTable.update_split (before := made done) (after := left rest)
    (e := e.evaluate s.cfg.params.fightEffort own) distinct_v
    (Entry.coordinate s.running (e.testedFrom own.epoch) (e.evaluate s.cfg.params.fightEffort own).pair.state)
  rw [Entry.evaluate_station] at changed
  simp only [NeighbourTable.update, made, left, List.cons_append, List.map_append, List.map_cons, List.map_nil,
    List.append_assoc] at changed ⊢
  exact congrArg (fun l => { s.table with entries := l }) changed

theorem updateCandidates_table (own : Summary) {s : State} (distinct : s.StationsDistinct) :
    (s.updateCandidates own).table
      = { s.table with entries := s.table.entries.map (Entry.evaluated s.running s.cfg.params.fightEffort own) } := by
  rw [updateCandidates_eq]
  refine (pairsHanded_table own distinct (localsHanded_frame ..) (localsHanded_table ..) (List.append_nil _)).2.trans ?_
  rw [List.map_nil, List.append_nil]

/-! ### Ownership (R115) -/

/-- R115 of one entry. -/
abbrev Entry.OwnershipLawful (e : Entry) : Prop :=
  e.ownership = .claiming ∨ e.ownership = .holder → e.pair.state.confirmedOrRecovering = true

theorem Entry.claim_lawful {e : Entry} (h : e.OwnershipLawful) (running : Bool) : (e.claim running).OwnershipLawful := by
  unfold Entry.claim
  split
  · rename_i may
    simp only [Bool.and_eq_true] at may
    exact fun _ => may.1.2
  · exact h

theorem Entry.follow_lawful (e : Entry) : e.follow.OwnershipLawful := by simp [Entry.OwnershipLawful]

theorem Entry.unhold_lawful (running : Bool) (e : Entry) : (e.unhold running).OwnershipLawful :=
  Entry.claim_lawful (by simp [Entry.OwnershipLawful]) running

theorem Entry.unfollow_lawful {e : Entry} (h : e.OwnershipLawful) (running : Bool) :
    (e.unfollow running).OwnershipLawful := by
  unfold Entry.unfollow
  split
  · exact e.unhold_lawful running
  · exact h

theorem Entry.outcome_lawful {e : Entry} (h : e.OwnershipLawful) (epoch : Byte) (o : AttemptEnd) :
    (e.outcome epoch o).OwnershipLawful := by
  unfold Entry.outcome
  split
  · rename_i claiming
    have confirmed := h (.inl (by simpa using claiming))
    have retried : e.retry.OwnershipLawful := by
      unfold Entry.retry
      split <;> exact fun _ => confirmed
    cases o with
    | repeatMark => exact retried
    | stale => simp [Entry.OwnershipLawful, Entry.setBack]
    | concur => exact fun _ => confirmed
    | noMark => exact fun _ => confirmed
    | contentionLoss => exact retried
  · exact h

/-- From RECOVERING or CONFIRMED an outcome leads out of the two states only to CLEAR, and from RECOVERING. -/
theorem nextState_confirmedOrRecovering {state : CandState} (h : state.confirmedOrRecovering = true) (score : Nat) :
    (nextState state score).confirmedOrRecovering = true ∨ state = .recovering ∧ nextState state score = .clear := by
  cases state with
  | clear => cases h
  | suspect => cases h
  | confirmed => rw [nextState_confirmed]; split <;> exact .inl rfl
  | recovering =>
    rw [nextState_recovering]
    split_ifs
    · exact .inl rfl
    · exact .inr ⟨rfl, rfl⟩
    · exact .inl rfl

theorem Entry.checkReservation_of_confirmed {e : Entry} (h : e.pair.state.confirmedOrRecovering = true) (epoch : Byte) :
    (e.checkReservation epoch).pair = e.pair := by
  unfold Entry.checkReservation
  rw [if_pos h]
  split <;> rfl

theorem Entry.evaluate_ownership (fight : Nat) (own : Summary) (e : Entry) :
    (e.evaluate fight own).ownership = e.ownership := by
  unfold Entry.evaluate Entry.checkReservation
  dsimp only
  split
  · split <;> rfl
  · rfl

theorem Entry.evaluate_state (fight : Nat) (own : Summary) (e : Entry) :
    (e.evaluate fight own).pair.state = nextState (e.testedFrom own.epoch) (e.evaluate fight own).pair.score := rfl

theorem Entry.release_lawful (e : Entry) : e.release.OwnershipLawful := by
  unfold Entry.release
  split
  · simp [Entry.OwnershipLawful]
  · rename_i free
    intro owned
    simp only [Bool.or_eq_true, beq_iff_eq] at free
    exact absurd owned.symm free

theorem Entry.evaluated_lawful {e : Entry} (h : e.OwnershipLawful) (running : Bool) (fight : Nat) (own : Summary) :
    (e.evaluated running fight own).OwnershipLawful := by
  refine Entry.claim_lawful ?_ running
  split
  · exact Entry.release_lawful _
  · rename_i stays
    intro owned
    rw [Entry.evaluate_ownership] at owned
    have confirmed := h owned
    have same : e.testedFrom own.epoch = e.pair.state :=
      congrArg Scored.state (Entry.checkReservation_of_confirmed confirmed own.epoch)
    rcases nextState_confirmedOrRecovering (same ▸ confirmed) (e.evaluate fight own).pair.score with now | clears
    · exact now
    · exact absurd clears stays

theorem State.OwnershipLawful.update {s t : State} (h : s.OwnershipLawful) {p : Nat} {f : Entry → Entry}
    (frame : PairFrame s t) (table : t.table = s.table.update p f)
    (lawful : ∀ e : Entry, e.OwnershipLawful → (f e).OwnershipLawful) : t.OwnershipLawful := by
  refine ⟨frame.stationsDistinct h.1, fun e he => ?_⟩
  rw [table] at he
  obtain ⟨x, hx, rfl⟩ := List.mem_map.mp he
  split
  · exact lawful x (h.2 x hx)
  · exact h.2 x hx

theorem State.OwnershipLawful.frame_of_table {s t : State} (h : s.OwnershipLawful) (table : t.table = s.table) :
    t.OwnershipLawful := by
  rwa [State.OwnershipLawful, State.StationsDistinct, table]

theorem enrol_distinct {s : State} {p : Nat} (places : List Nat) (d : Summary) (distinct : s.StationsDistinct)
    (absent : s.entry p = none) : (s.enrol p places d).StationsDistinct := by
  have new : p ∉ s.table.entries.map Entry.station := by
    rw [List.mem_map]
    rintro ⟨e, he, same⟩
    exact State.entry_eq_none_iff.mp absent e he same
  rw [State.StationsDistinct, State.enrol, State.modTable_table, List.map_append, List.nodup_append]
  refine ⟨distinct, List.nodup_singleton _, fun x hx y hy => ?_⟩
  rintro rfl
  rw [List.mem_singleton.mp hy] at hx
  exact new hx

theorem removeEntry_distinct {s : State} (p : Nat) (distinct : s.StationsDistinct) :
    (s.removeEntry p).StationsDistinct := by
  rw [State.StationsDistinct, removeEntry_entries]
  exact distinct.sublist (List.filter_sublist.map _)

theorem ownershipLaw : DigestLaw State.OwnershipLawful where
  refreshed p _ _ s h := h.update (.modEntry p s (fun _ => by rfl) fun _ => .inl (by rfl)) rfl fun _ he => he
  unfollowed p s h := h.update (unfollow_work p s).frame (unfollow_table h.1 p) fun _ he => Entry.unfollow_lawful he _
  follower p s h := h.update (becomeFollower_work p s).frame (becomeFollower_table h.1 p) fun e _ => e.follow_lawful
  removed p s h := ⟨removeEntry_distinct p h.1, fun e he => by
    rw [removeEntry_entries] at he
    exact h.2 e (List.mem_filter.mp he).1⟩
  enrolled p places d s h absent _ := ⟨enrol_distinct places d h.1 absent, fun e he => by
    rcases List.mem_append.mp he with mem | new
    · exact h.2 e mem
    · obtain rfl := List.mem_singleton.mp new
      simp [newEntry]⟩
  refused _ h := h
  duplicate _ h := h

theorem takeQuery_table (source what start : Nat) (s : State) : (s.takeQuery source what start).table = s.table := by
  unfold State.takeQuery State.answerStatus State.answerList
  split
  · rfl
  · split <;> rfl

theorem takeOne_ownership (s : State) (r : Received) (h : s.OwnershipLawful) : (s.takeOne r).OwnershipLawful := by
  cases r with
  | digest source d => exact ownershipLaw.takeDigest source d h
  | query source what start => exact h.frame_of_table (takeQuery_table source what start s)

theorem takeReceived_ownership (s : State) (h : s.OwnershipLawful) : s.takeReceived.OwnershipLawful :=
  foldl_keeps takeOne_ownership _ (s := s.modLine fun l => { l with received := [] }) h

theorem applyClaimOutcome_ownership (p : Nat) (o : AttemptEnd) (s : State) (h : s.OwnershipLawful) :
    (s.applyClaimOutcome p o).OwnershipLawful :=
  h.update (applyClaimOutcome_work p s o).frame (applyClaimOutcome_table h.1 p o) fun _ he => Entry.outcome_lawful he _ _

theorem applyHeld_ownership (s : State) (h : s.OwnershipLawful) : s.applyHeld.OwnershipLawful :=
  foldl_keeps (f := fun s (x : HeldOutcome) => s.applyClaimOutcome x.peer x.outcome)
    (fun s x h => applyClaimOutcome_ownership x.peer x.outcome s h) _ (s := s.modLine fun l => { l with held := [] }) h

theorem updateCandidates_ownership (own : Summary) (s : State) (h : s.OwnershipLawful) :
    (s.updateCandidates own).OwnershipLawful := by
  rw [State.OwnershipLawful, State.StationsDistinct, updateCandidates_table own h.1]
  refine ⟨by simpa [Function.comp_def] using h.1, fun e he => ?_⟩
  obtain ⟨x, hx, rfl⟩ := List.mem_map.mp he
  exact Entry.evaluated_lawful (h.2 x hx) _ _ _

theorem Move.ownership {s t : State} (h : s.OwnershipLawful) (move : Move s t) : t.OwnershipLawful := by
  cases move with
  | cleared => exact ⟨List.nodup_nil, by simp [State.clearBlocks, NeighbourTable.restart]⟩
  | warm =>
    rw [State.warmRestart_eq]
    simp [State.OwnershipLawful, State.StationsDistinct, NeighbourTable.restart]
  | grown =>
    refine ⟨by simpa [State.StationsDistinct, Entry.grow, Function.comp_def] using h.1, fun e he => ?_⟩
    obtain ⟨x, hx, rfl⟩ := List.mem_map.mp he
    exact h.2 x hx
  | settled p => exact ownershipLaw.settleAge p h
  | completed t =>
    exact completed_keeps (P := State.OwnershipLawful) t (fun h => h) (updateCandidates_ownership _) (fun _ h => h)
      applyHeld_ownership takeReceived_ownership (fun _ h => h) (fun _ h => h) h
  | joinedTaken r => exact takeReceived_ownership (s.modLine fun l => { l with received := l.received ++ [r] }) h
  | taken r rest => exact takeOne_ownership s.popReceived r h
  | follower p => exact ownershipLaw.follower p s h
  | outcome p o => exact applyClaimOutcome_ownership p o s h
  | _ => exact h

/-- Settles O58: every move keeps R115, the completion because an ownership is released with its candidate (R133). -/
theorem stepKeepsOwnership : Obligations.StepKeepsOwnership := fun _ _ h stepped =>
  step_keeps (P := State.OwnershipLawful) (fun _ _ => Move.ownership) (fun _ h => h) (fun _ _ h => h) h stepped

end Sys2Proof.Machine
end

/-! The transmit queue (R118, R153): a claim stands in it exactly for each CLAIMING entry, and each kind keeps to its
limit (O60). -/

section
namespace Sys2Proof.Machine

/-! ### The telegrams of the queue -/

/-- The telegrams of the transmit queue in their places. -/
def Line.telegrams (l : Line) : List Outgoing := l.queue.map Queued.telegram

theorem Line.holds_iff {l : Line} {o : Outgoing} : l.holds o = true ↔ o ∈ l.telegrams := by
  simp [Line.holds, Line.telegrams]

theorem Line.holds_eq_false_iff {l : Line} {o : Outgoing} : l.holds o = false ↔ o ∉ l.telegrams := by
  rw [← Line.holds_iff, Bool.not_eq_true]

theorem Line.findingCount_eq (l : Line) : l.findingCount = l.telegrams.countP Outgoing.isFinding := by
  simp [Line.findingCount, Line.telegrams, List.countP_map, Function.comp_def]

theorem State.repliesDue_eq (s : State) :
    s.repliesDue = s.line.telegrams.countP Outgoing.isReply + s.line.received.countP Received.isQuery := by
  simp [State.repliesDue, Line.telegrams, List.countP_map, Function.comp_def]

@[simp] theorem Line.telegrams_submit (o : Outgoing) (l : Line) : (l.submit o).telegrams = l.telegrams ++ [o] := by
  simp [Line.telegrams, Line.submit]

theorem Line.telegrams_leave (o : Outgoing) (l : Line) : (l.leave o).telegrams.Sublist l.telegrams :=
  List.filter_sublist.map _

theorem Line.telegrams_withdraw (o : Outgoing) (l : Line) : (l.withdraw o).telegrams.Sublist l.telegrams := by
  rw [Line.telegrams, Line.withdraw_queue]
  exact List.filter_sublist.map _

theorem Line.holds_congr {l m : Line} {o : Outgoing} (same : l.queue = m.queue) : l.holds o = m.holds o := by
  rw [Line.holds, Line.holds, same]

@[simp] theorem Line.holds_withdraw (o p : Outgoing) (l : Line) : (l.withdraw o).holds p = (l.holds p && p != o) := by
  rw [← Line.holds_leave]
  exact Line.holds_congr (l.withdraw_queue o)

@[simp] theorem Line.holds_countAttempt (o p : Outgoing) (l : Line) : (l.countAttempt o).holds p = l.holds p := by
  rw [Bool.eq_iff_iff, Line.holds_iff, Line.holds_iff, Line.telegrams, Line.countAttempt_telegrams, Line.telegrams]

@[simp] theorem Line.holds_doubleWindow (p : Outgoing) (l : Line) : l.doubleWindow.holds p = l.holds p := rfl

/-! ### The law -/

/-- The law of the transmit queue, with `due` queries taken from the receive queue that are still to be answered. -/
structure State.QueueKeeps (due : Nat) (s : State) : Prop where
  distinct : s.StationsDistinct
  entries : s.table.entries.length ≤ 8
  nodup : s.line.telegrams.Nodup
  claims : ∀ p, s.line.holds (.claim p) = (s.entry p).any fun e => e.ownership == .claiming
  findings : s.line.telegrams.countP Outgoing.isFinding ≤ 4
  replies : s.line.telegrams.countP Outgoing.isReply + s.line.received.countP Received.isQuery + due ≤ 1

theorem State.queueLawful_iff {s : State} : s.QueueLawful ↔ s.QueueKeeps 0 := by
  rw [State.QueueLawful, Line.findingCount_eq, State.repliesDue_eq]
  constructor
  · rintro ⟨distinct, entries, nodup, claiming, present, findings, replies⟩
    refine ⟨distinct, entries, nodup, fun p => ?_, findings, replies⟩
    rw [Bool.eq_iff_iff, Option.any_eq_true]
    constructor
    · intro held
      obtain ⟨q, hq, same⟩ := List.mem_map.mp (Line.holds_iff.mp held)
      obtain ⟨e, he, rfl⟩ := present q hq p same
      exact ⟨e, distinct.entry_eq he, by simpa using (claiming e he).mp held⟩
    · rintro ⟨e, found, owned⟩
      obtain ⟨he, rfl⟩ := State.entry_spec found
      exact (claiming e he).mpr (by simpa using owned)
  · rintro ⟨distinct, entries, nodup, claims, findings, replies⟩
    refine ⟨distinct, entries, nodup, fun e he => ?_, fun q hq p same => ?_, findings, replies⟩
    · rw [claims, distinct.entry_eq he, Option.any_some, beq_iff_eq]
    · have held : s.line.holds (.claim p) = true := Line.holds_iff.mpr (same ▸ List.mem_map_of_mem hq)
      rw [claims, Option.any_eq_true] at held
      obtain ⟨e, found, -⟩ := held
      exact ⟨e, State.entry_spec found⟩

namespace State.QueueKeeps

variable {due p : Nat} {s t : State}

/-- The law looks at the table, the queues and nothing else. -/
theorem congr (h : s.QueueKeeps due) (table : t.table = s.table) (line : t.line = s.line) : t.QueueKeeps due := by
  obtain ⟨distinct, entries, nodup, claims, findings, replies⟩ := h
  exact ⟨by rwa [State.StationsDistinct, table], table ▸ entries, line ▸ nodup,
    fun p => by rw [line, claims, State.entry, State.entry, table], line ▸ findings, line ▸ replies⟩

/-- Telegrams leave the queue, and no claim of a station that has an entry is among them. -/
theorem quiet (h : s.QueueKeeps due) {f : Line → Line}
    (quiet : Line.Quiet (fun p => (s.entry p).isSome) s.line (f s.line)) : (s.modLine f).QueueKeeps due where
  distinct := h.distinct
  entries := h.entries
  nodup := h.nodup.sublist quiet.queue
  claims p := by
    cases found : s.entry p with
    | none =>
      have held := h.claims p
      rw [found, Option.any_none, Line.holds_eq_false_iff] at held
      rw [State.modLine_entry, found, Option.any_none, Line.holds_eq_false_iff]
      exact fun mem => held (quiet.queue.subset mem)
    | some e => exact (quiet.claims p (by simp [found])).trans (h.claims p)
  findings := (quiet.queue.countP_le).trans h.findings
  replies := by
    have fewer := quiet.queue.countP_le (p := Outgoing.isReply)
    have replies := h.replies
    simp only [State.modLine_line, quiet.received, Line.telegrams] at fewer replies ⊢
    omega

/-- The entry and the claim of one station change together, nothing joining the queue. -/
theorem pair (h : s.QueueKeeps due) (work : PairWork p s t) {f : Entry → Entry} (table : t.table = s.table.update p f)
    (station : ∀ e, (f e).station = e.station) (telegrams : t.line.telegrams.Sublist s.line.telegrams)
    (own : ∀ e, s.entry p = some e → t.line.holds (.claim p) = ((f e).ownership == .claiming)) : t.QueueKeeps due where
  distinct := work.frame.stationsDistinct h.distinct
  entries := work.frame.length ▸ h.entries
  nodup := h.nodup.sublist telegrams
  claims q := by
    have entry : t.entry q = if q = p then (s.entry p).map f else s.entry q := by
      rw [State.entry, table]
      exact s.table.find_update p q f station
    rw [entry]
    split
    · rename_i same
      subst same
      cases found : s.entry q with
      | none =>
        have held := h.claims q
        rw [found, Option.any_none, Line.holds_eq_false_iff] at held
        rw [Option.map_none, Option.any_none, Line.holds_eq_false_iff]
        exact fun mem => held (telegrams.subset mem)
      | some e => rw [own e found, Option.map_some, Option.any_some]
    · rename_i other
      rw [← h.claims q, Bool.eq_iff_iff]
      simp only [Line.holds, List.any_eq_true, beq_iff_eq]
      refine exists_congr fun x => and_congr_left fun same => work.only.queue x ?_ ?_
      · rw [same]
        simpa using other
      · simp [same]
  findings := telegrams.countP_le.trans h.findings
  replies := by
    have fewer := telegrams.countP_le (p := Outgoing.isReply)
    have replies := h.replies
    rw [work.frame.course.received]
    omega

/-- A telegram that the queue does not hold joins it, within the limits of its kind. -/
theorem submit (h : s.QueueKeeps due) {o : Outgoing} {left : Nat} (absent : s.line.holds o = false)
    (notClaim : ∀ p, o ≠ .claim p) (findings : o.isFinding = true → s.line.findingCount < 4)
    (replies : o.isReply.toNat + left ≤ due) : (s.modLine (.submit o)).QueueKeeps left where
  distinct := h.distinct
  entries := h.entries
  nodup := by
    rw [State.modLine_line, Line.telegrams_submit, List.nodup_append]
    refine ⟨h.nodup, List.nodup_singleton o, fun x hx y hy => ?_⟩
    rintro rfl
    exact Line.holds_eq_false_iff.mp absent (List.mem_singleton.mp hy ▸ hx)
  claims p := by
    rw [State.modLine_line, Line.holds_submit, beq_eq_false_iff_ne.mpr (notClaim p), Bool.or_false]
    exact h.claims p
  findings := by
    rw [State.modLine_line, Line.telegrams_submit, List.countP_append, List.countP_singleton]
    have before := h.findings
    rw [Line.findingCount_eq] at findings
    split
    · exact findings ‹_›
    · exact before
  replies := by
    have before := h.replies
    have one : [o].countP Outgoing.isReply = o.isReply.toNat := by
      rw [List.countP_singleton]
      cases o.isReply <;> rfl
    rw [State.modLine_line, Line.telegrams_submit, List.countP_append, one]
    change _ + s.line.received.countP Received.isQuery + left ≤ 1
    omega

end State.QueueKeeps

/-! ### The operations of the pair coordinator -/

section
variable {due : Nat} {s : State} (h : s.QueueKeeps due) (p : Nat)

include h

theorem testClaim_queue : (s.testClaim p).QueueKeeps due := by
  have work := testClaim_work p s
  have table := testClaim_table h.distinct p
  cases found : s.entry p with
  | none => rwa [testClaim_of_absent found]
  | some e =>
    rw [testClaim_of_entry found] at work table ⊢
    split
    · rename_i may
      rw [if_pos may] at work table
      have claimed : (e.claim s.running).ownership = .claiming := by rw [Entry.claim, if_pos may]
      have absent : s.line.holds (.claim p) = false := by
        simp only [Bool.and_eq_true, beq_iff_eq] at may
        rw [h.claims, found, Option.any_some, may.2]
        rfl
      refine ⟨work.frame.stationsDistinct h.distinct, work.frame.length ▸ h.entries, ?_, fun q => ?_, ?_, ?_⟩
      · change (s.line.submit (.claim p)).telegrams.Nodup
        rw [Line.telegrams_submit, List.nodup_append]
        refine ⟨h.nodup, List.nodup_singleton _, fun x hx y hy => ?_⟩
        rintro rfl
        exact Line.holds_eq_false_iff.mp absent (List.mem_singleton.mp hy ▸ hx)
      · rw [State.entry, table, NeighbourTable.find_update _ _ _ _ fun e => e.claim_station _]
        change (s.line.submit (.claim p)).holds (.claim q) = _
        rw [Line.holds_submit, h.claims]
        by_cases same : q = p
        · subst same
          have found' : s.table.find q = some e := found
          rw [if_pos rfl, found', Option.map_some, Option.any_some, claimed]
          simp
        · simp [same, Ne.symm same, State.entry]
      · change (s.line.submit (.claim p)).telegrams.countP _ ≤ 4
        simpa [Outgoing.isFinding] using h.findings
      · change (s.line.submit (.claim p)).telegrams.countP _ + s.line.received.countP _ + due ≤ 1
        simpa [Outgoing.isReply] using h.replies
    · exact h

/-- A change of an entry that neither begins nor ends CLAIMING. -/
theorem modEntry_queue {f : Entry → Entry} (station : ∀ e : Entry, (f e).station = e.station)
    (pair : ∀ e : Entry, e.pair.KeptOrSetBack (f e).pair)
    (same : ∀ e, s.entry p = some e → ((f e).ownership == .claiming) = (e.ownership == .claiming)) :
    (s.modEntry p f).QueueKeeps due :=
  h.pair (.modEntry s station pair) rfl station (.refl _) fun e found => by
    rw [State.modEntry_line, h.claims, found, Option.any_some, same e found]

/-- The claim of a CLAIMING entry withdrawn, and the ownership another. -/
theorem withdrawClaim_queue {o : Ownership} (other : o ≠ .claiming) :
    ((s.withdrawIfClaiming p).modEntry p fun e => { e with ownership := o }).QueueKeeps due := by
  have work := (withdrawIfClaiming_work p s).trans
    (PairWork.modEntry (f := fun e => { e with ownership := o }) (s.withdrawIfClaiming p) (fun _ => rfl) fun _ => .inl rfl)
  have table : ((s.withdrawIfClaiming p).modEntry p fun e => { e with ownership := o }).table
      = s.table.update p fun e => { e.dropClaim with ownership := o } :=
    (congrArg (NeighbourTable.update p _) (withdrawIfClaiming_table h.distinct p)).trans
      (s.table.update_update p Entry.dropClaim_station)
  refine h.pair work table Entry.dropClaim_station ?_ fun e found => ?_
  · rw [State.modEntry_line]
    unfold State.withdrawIfClaiming
    split
    · exact Line.telegrams_withdraw _ _
    · exact .refl _
  · rw [State.modEntry_line, beq_eq_false_iff_ne.mpr other]
    unfold State.withdrawIfClaiming
    split
    · exact (Line.holds_withdraw (.claim p) (.claim p) s.line).trans (by simp)
    · rename_i idle
      rw [h.claims]
      simpa using idle

theorem recordFollows_queue : (s.recordFollows p).QueueKeeps due := by
  unfold State.recordFollows
  dsimp only
  split
  · refine State.QueueKeeps.congr (h.quiet (f := .withdraw (.finding (pairKey p))) ?_) rfl rfl
    exact ⟨Line.telegrams_withdraw _ _, fun q _ => by simp, (Line.withdraw_course _ _).received,
      by unfold Line.withdraw; split <;> [split <;> rfl; rfl], (Line.withdraw_course _ _).window⟩
  · exact h.congr rfl rfl

theorem becomeFollower_queue : (s.becomeFollower p).QueueKeeps due :=
  recordFollows_queue (withdrawClaim_queue h p (by decide)) p

theorem unfollow_queue : (s.unfollow p).QueueKeeps due := by
  unfold State.unfollow
  split
  · rename_i follows
    refine testClaim_queue (modEntry_queue h p (fun _ => by rfl) (fun _ => .inl (by rfl)) fun e found => ?_) p
    rw [found, Option.any_some, beq_iff_eq] at follows
    simp [follows]
  · exact h

omit h in
theorem settleHolder_holds (p : Nat) (corroborated : Bool) (s : State) :
    (s.settleHolder p corroborated).line.holds (.claim p) = false :=
  (Line.holds_leave (.claim p) (.claim p) s.line).trans (by simp)

theorem settleHolder_queue (corroborated : Bool) : (s.settleHolder p corroborated).QueueKeeps due :=
  h.pair (settleHolder_work p s corroborated) (settleHolder_table p corroborated s) (fun _ => rfl)
    (Line.telegrams_leave _ _) fun _ _ => settleHolder_holds p corroborated s

theorem settleStale_queue : (s.settleStale p).QueueKeeps due :=
  h.pair (settleStale_work p s) (settleStale_table p s) (fun _ => rfl) (Line.telegrams_leave _ _) fun _ _ =>
    (Line.holds_leave (.claim p) (.claim p) s.line).trans (by simp [Entry.setBack])

theorem claimRetry_queue (lost : Bool) : (s.claimRetry p lost).QueueKeeps due := by
  have counted : ((s.modEntry p Entry.count).modLine (.countAttempt (.claim p))).QueueKeeps due :=
    State.QueueKeeps.quiet (modEntry_queue h p Entry.count_station (fun _ => .inl rfl) fun _ _ => rfl)
      (Line.countAttempt_quiet _ _)
  have spent : ∀ u : State, u.QueueKeeps due →
      (if (u.entry p).any (fun e => 16 ≤ e.claimAttempts) then (u.settleHolder p false).flagTelegramDiscarded
        else u).QueueKeeps due := by
    intro u hu
    split
    · exact (settleHolder_queue hu p false).congr rfl rfl
    · exact hu
  unfold State.claimRetry
  dsimp only
  apply spent
  split
  · exact counted.quiet (.of_eq rfl rfl rfl Line.doubleWindow_lawful)
  · exact counted

theorem applyClaimOutcome_queue (o : AttemptEnd) : (s.applyClaimOutcome p o).QueueKeeps due := by
  unfold State.applyClaimOutcome
  split
  · cases o with
    | repeatMark => exact claimRetry_queue h p false
    | stale => exact settleStale_queue h p
    | concur => exact settleHolder_queue h p true
    | noMark => exact settleHolder_queue h p false
    | contentionLoss => exact claimRetry_queue h p true
  · exact h

theorem coordinate_queue (before after : CandState) : (s.coordinate p before after).QueueKeeps due := by
  by_cases clears : before = .recovering ∧ after = .clear
  · obtain ⟨rfl, rfl⟩ := clears
    refine testClaim_queue ?_ p
    dsimp only
    split
    · exact withdrawClaim_queue h p (by decide)
    · rename_i free
      have idle : s.withdrawIfClaiming p = s := by
        unfold State.withdrawIfClaiming
        rw [if_neg]
        rw [Option.any_eq_true] at free ⊢
        rintro ⟨e, found, owned⟩
        exact free ⟨e, found, by simp [owned]⟩
      rwa [idle]
  · rw [coordinate_of_stays clears]
    exact testClaim_queue h p

omit h in
theorem reportTransition_line (k : Key) (before after : CandState) (score : Nat) (holder : Holder) (announced : Bool)
    (s : State) : (s.reportTransition k before after score holder announced).line = s.line := by
  unfold State.reportTransition
  split <;> rfl

omit h in
theorem handLocal_line (s : State) (x : Handed) : (s.handLocal x).line = s.line := by
  unfold State.handLocal
  dsimp only
  split
  · exact reportTransition_line ..
  · exact reportTransition_line ..

omit h in
theorem handPair_line (s : State) (p : Nat) (x : Handed) :
    (s.handPair p x).line = (s.coordinate p x.before x.after).line := by
  unfold State.handPair
  dsimp only
  split
  · exact reportTransition_line ..
  · exact reportTransition_line ..

theorem handPair_queue (x : Handed) : (s.handPair p x).QueueKeeps due := by
  refine (coordinate_queue h p x.before x.after).congr ?_ (handPair_line s p x)
  rw [handPair_table h.distinct, coordinate_table h.distinct]

theorem updateCandidates_queue (own : Summary) : (s.updateCandidates own).QueueKeeps due := by
  have rescored : (s.rescored own).QueueKeeps due := by
    have distinct : (s.rescored own).StationsDistinct := by
      rw [State.StationsDistinct, rescored_stations]
      exact h.distinct
    refine ⟨distinct, by simpa [State.rescored] using h.entries, h.nodup, fun p => ?_, h.findings, h.replies⟩
    have entry : (s.rescored own).entry p = (s.entry p).map (Entry.evaluate s.cfg.params.fightEffort own) := by
      simp [State.entry, NeighbourTable.find, State.rescored, List.find?_map]
    rw [entry, Option.any_map]
    simp only [Entry.evaluate_ownership]
    exact h.claims p
  rw [updateCandidates_eq]
  refine foldl_keeps (P := State.QueueKeeps due) (fun u e hu => handPair_queue hu _ _) _ ?_
  exact foldl_keeps (P := State.QueueKeeps due) (fun u x hu => hu.congr (handLocal_table u _) (handLocal_line u _)) _
    rescored

theorem applyHeld_queue : s.applyHeld.QueueKeeps due :=
  foldl_keeps (P := State.QueueKeeps due) (f := fun s (x : HeldOutcome) => s.applyClaimOutcome x.peer x.outcome)
    (fun _ x hu => applyClaimOutcome_queue hu x.peer x.outcome) _ (s := s.modLine fun l => { l with held := [] })
    ⟨h.distinct, h.entries, h.nodup, h.claims, h.findings, h.replies⟩

end

/-! ### The receive queue -/

section
variable {due : Nat} {s : State} (h : s.QueueKeeps due)

include h

theorem withdrawIfClaiming_holds (p q : Nat) :
    (s.withdrawIfClaiming p).line.holds (.claim q) = (s.line.holds (.claim q) && q != p) := by
  rw [withdrawIfClaiming_line]
  split
  · exact (Line.holds_withdraw (.claim p) (.claim q) s.line).trans (by
      rw [Bool.eq_iff_iff]
      simp)
  · rename_i idle
    by_cases same : q = p
    · subst same
      rw [h.claims, Bool.eq_false_iff.mpr idle, Bool.false_and]
    · simp [same]

/-- An entry that leaves takes its claim with it (R95). -/
theorem removeEntry_queue (p : Nat) : (s.removeEntry p).QueueKeeps due := by
  have telegrams : (s.removeEntry p).line.telegrams.Sublist s.line.telegrams := by
    rw [removeEntry_line, withdrawIfClaiming_line]
    split
    · exact Line.telegrams_withdraw _ _
    · exact .refl _
  have fewer := telegrams.countP_le (p := Outgoing.isReply)
  refine ⟨removeEntry_distinct p h.distinct, ?_, h.nodup.sublist telegrams, fun q => ?_,
    telegrams.countP_le.trans h.findings, ?_⟩
  · rw [removeEntry_entries]
    exact (List.length_filter_le _ _).trans h.entries
  · rw [removeEntry_line, withdrawIfClaiming_holds h, removeEntry_entry, h.claims]
    split
    · simp [*]
    · simp [*]
  · have replies := h.replies
    rw [(removeEntry_course p s).received]
    omega

end

theorem queueLaw (due : Nat) : DigestLaw (State.QueueKeeps due) where
  refreshed p _ _ s h := modEntry_queue h p (fun _ => by rfl) (fun _ => .inl (by rfl)) fun _ _ => by rfl
  unfollowed p s h := unfollow_queue h p
  follower p s h := becomeFollower_queue h p
  removed p s h := removeEntry_queue h p
  enrolled p places d s h absent room := by
    refine ⟨enrol_distinct places d h.distinct absent, ?_, h.nodup, fun q => ?_, h.findings, h.replies⟩
    · have fewer : s.table.entries.length < 8 := by
        rcases room with room | ⟨u, full, fewer⟩
        · exact room
        · have bound := full.entries
          omega
      simpa [State.enrol] using fewer
    · refine (h.claims q).trans ?_
      simp only [State.entry, NeighbourTable.find, State.enrol, State.modTable_table, List.find?_append]
      cases s.table.entries.find? fun e => e.station == q with
      | some e => rfl
      | none =>
        simp only [Option.none_or, Option.any_none, List.find?_singleton]
        split <;> rfl
  refused _ h := h.congr rfl rfl |> fun k => ⟨k.distinct, k.entries, k.nodup, k.claims, k.findings, k.replies⟩
  duplicate _ h := ⟨h.distinct, h.entries, h.nodup, h.claims, h.findings, h.replies⟩

/-- A query answered: its reply takes the place that was kept for it. -/
theorem takeQuery_queue {due : Nat} {s : State} (h : s.QueueKeeps (due + 1)) (source what start : Nat) :
    (s.takeQuery source what start).QueueKeeps due := by
  have replied : ∀ n flags, (s.modLine (.submit (.reply source what n flags))).QueueKeeps due := fun n flags => by
    refine h.submit (Line.holds_eq_false_iff.mpr fun mem => ?_) (by simp) (by simp [Outgoing.isFinding])
      (by simp [Outgoing.isReply, Nat.add_comm])
    have counted : 0 < s.line.telegrams.countP Outgoing.isReply := List.countP_pos_iff.mpr ⟨_, mem, rfl⟩
    have replies := h.replies
    omega
  unfold State.takeQuery
  split
  · rename_i status
    obtain rfl : what = 1 := by simpa using status
    exact (replied 0 _).congr rfl rfl
  · unfold State.answerList
    split
    · exact replied _ _
    · have replies := h.replies
      exact ⟨h.distinct, h.entries, h.nodup, h.claims, h.findings, by omega⟩

theorem takeOne_queue {due : Nat} {s : State} (r : Received) (h : s.QueueKeeps (due + r.isQuery.toNat)) :
    (s.takeOne r).QueueKeeps due := by
  cases r with
  | digest source d => exact (queueLaw due).takeDigest source d h
  | query source what start => exact takeQuery_queue h source what start

theorem countP_cons_isQuery (r : Received) (rest : List Received) :
    (r :: rest).countP Received.isQuery = rest.countP Received.isQuery + r.isQuery.toNat := by
  rw [List.countP_cons]
  cases r.isQuery <;> rfl

theorem takeReceived_queue {s : State} (h : s.QueueKeeps 0) : s.takeReceived.QueueKeeps 0 := by
  have taken : ∀ (l : List Received) (u : State), u.QueueKeeps (l.countP Received.isQuery) →
      (l.foldl State.takeOne u).QueueKeeps 0 := by
    intro l
    induction l with
    | nil => exact fun u hu => hu
    | cons r rest ih =>
      intro u hu
      rw [countP_cons_isQuery] at hu
      exact ih _ (takeOne_queue r hu)
  refine taken _ _ ⟨h.distinct, h.entries, h.nodup, h.claims, h.findings, ?_⟩
  have replies := h.replies
  change s.line.telegrams.countP _ + ([] : List Received).countP _ + _ ≤ 1
  simp only [List.countP_nil]
  omega

/-- A telegram joins the receive queue; a query does where no reply and no query is pending (R155). -/
theorem joined_queue {s : State} (h : s.QueueKeeps 0) (r : Received)
    (single : r.isQuery = true → s.line.replyPending = false) :
    (s.modLine fun l => { l with received := l.received ++ [r] }).QueueKeeps 0 := by
  refine ⟨h.distinct, h.entries, h.nodup, h.claims, h.findings, ?_⟩
  change s.line.telegrams.countP _ + (s.line.received ++ [r]).countP _ + 0 ≤ 1
  have replies := h.replies
  rw [List.countP_append, List.countP_singleton]
  split
  · rename_i query
    have free := single query
    simp only [Line.replyPending, Bool.or_eq_false_iff, List.any_eq_false] at free
    have none_sent : s.line.telegrams.countP Outgoing.isReply = 0 := by
      rw [Line.telegrams, List.countP_map, List.countP_eq_zero]
      simpa using free.1
    have none_waits : s.line.received.countP Received.isQuery = 0 := by
      rw [List.countP_eq_zero]
      exact free.2
    omega
  · omega

/-! ### Digests and finding telegrams -/

theorem submitDigest_queue {due : Nat} {s : State} (h : s.QueueKeeps due) : (s.modLine Line.submitDigest).QueueKeeps due := by
  by_cases held : s.line.holds .digest = true
  · refine h.quiet (.trans (m := s.line) (.refl _) ?_)
    have same : s.line.submitDigest.telegrams = s.line.telegrams := by
      simp only [Line.telegrams, Line.submitDigest, held, if_true, List.map_map]
      exact List.map_congr_left fun q _ => by simp only [Function.comp]; split <;> rfl
    have course := Line.submitDigest_course s.line
    refine ⟨by rw [← Line.telegrams, same]; exact .refl _, fun p _ => ?_, course.received, ?_, course.window⟩
    · rw [Bool.eq_iff_iff, Line.holds_iff, Line.holds_iff, same]
    · simp [Line.submitDigest, held]
  · have joins : s.modLine Line.submitDigest = s.modLine (.submit .digest) := by
      simp [State.modLine, Line.submitDigest, held]
    rw [joins]
    exact h.submit (by simpa using held) (by simp) (by simp [Outgoing.isFinding]) (by simp [Outgoing.isReply])

theorem queueFindings_queue {due : Nat} {s : State} (h : s.QueueKeeps due) : s.queueFindings.QueueKeeps due := by
  have announced : ∀ (records : List Finding) (l : Line), (s.modLine fun _ => l).QueueKeeps due →
      (s.modLine fun _ => records.foldl Line.announce l).QueueKeeps due := by
    intro records
    induction records with
    | nil => exact fun l hl => hl
    | cons r records ih =>
      intro l hl
      refine ih _ ?_
      unfold Line.announce
      split
      · rename_i may
        simp only [Bool.and_eq_true, Bool.not_eq_true', decide_eq_true_eq] at may
        exact hl.submit (s := s.modLine fun _ => l) may.1.2 (by simp) (fun _ => may.2) (by simp [Outgoing.isReply])
      · exact hl
  exact announced _ _ h

/-! ### Every move -/

theorem Move.queue {s t : State} (h : s.QueueKeeps 0) (move : Move s t) : t.QueueKeeps 0 := by
  cases move with
  | cleared =>
    exact ⟨List.nodup_nil, Nat.zero_le _, List.nodup_nil, fun _ => rfl, Nat.zero_le _, Nat.zero_le _⟩
  | warm =>
    rw [State.warmRestart_eq]
    refine ⟨List.nodup_nil, Nat.zero_le _, List.nodup_nil, fun _ => ?_, Nat.zero_le _, Nat.zero_le _⟩
    simp [Line.holds, Line.restart, State.entry, NeighbourTable.find, NeighbourTable.restart]
  | grown =>
    refine ⟨by simpa [State.StationsDistinct, Entry.grow, Function.comp_def] using h.distinct, by simpa using h.entries,
      h.nodup, fun p => ?_, h.findings, h.replies⟩
    refine (h.claims p).trans ?_
    simp only [State.entry, NeighbourTable.find, State.modTable_table, List.find?_map, Option.any_map]
    rfl
  | settled p => exact (queueLaw 0).settleAge p h
  | completed t =>
    refine completed_keeps (P := State.QueueKeeps 0) t (fun h => h.congr rfl rfl)
      (fun u hu => updateCandidates_queue hu _) (fun u hu => ?_) (fun u hu => applyHeld_queue hu)
      (fun u hu => takeReceived_queue hu) (fun u hu => queueFindings_queue hu) (fun u hu => hu.congr rfl rfl) h
    exact submitDigest_queue (s := u.modEval _) (hu.congr rfl rfl)
  | ticked => exact ⟨h.distinct, h.entries, h.nodup, h.claims, h.findings, h.replies⟩
  | line f _ quiet => exact h.quiet quiet
  | joined r _ room single => exact joined_queue h r single
  | joinedTaken r _ room single => exact takeReceived_queue (joined_queue h r single)
  | taken r rest _ head =>
    refine takeOne_queue (due := 0) r ⟨h.distinct, h.entries, h.nodup, h.claims, h.findings, ?_⟩
    have replies := h.replies
    rw [head, countP_cons_isQuery] at replies
    change s.line.telegrams.countP _ + s.line.received.tail.countP _ + _ ≤ 1
    rw [head, List.tail_cons]
    omega
  | follower p => exact becomeFollower_queue h p
  | held => exact ⟨h.distinct, h.entries, h.nodup, h.claims, h.findings, h.replies⟩
  | outcome p o => exact applyClaimOutcome_queue h p o
  | announced => exact queueFindings_queue h
  | _ => exact h.congr rfl rfl

/-! ### The length of the queue -/

/-- The telegram is a CLAIM. -/
def Outgoing.isClaim : Outgoing → Bool
  | .claim _ => true | .digest => false | .finding _ => false | .reply _ _ _ _ => false

/-- Every telegram is of one of the four kinds. -/
theorem length_by_kind (l : List Outgoing) :
    l.length = l.count .digest + l.countP Outgoing.isClaim + l.countP Outgoing.isFinding + l.countP Outgoing.isReply := by
  induction l with
  | nil => rfl
  | cons o l ih =>
    rw [List.length_cons, ih]
    cases o <;> simp [List.countP_cons, Outgoing.isClaim, Outgoing.isFinding, Outgoing.isReply] <;> omega

theorem State.QueueKeeps.claims_le {due : Nat} {s : State} (h : s.QueueKeeps due) :
    s.line.telegrams.countP Outgoing.isClaim ≤ s.table.entries.length := by
  rw [List.countP_eq_length_filter, ← List.length_map (f := fun e : Entry => Outgoing.claim e.station)]
  refine (List.Nodup.subperm (h.nodup.filter _) fun o ho => ?_).length_le
  obtain ⟨mem, claim⟩ := List.mem_filter.mp ho
  cases o with
  | claim p =>
    have held := h.claims p
    rw [Line.holds_iff.mpr mem, eq_comm, Option.any_eq_true] at held
    obtain ⟨e, found, -⟩ := held
    obtain ⟨he, rfl⟩ := State.entry_spec found
    exact List.mem_map_of_mem he
  | digest => cases claim
  | finding k => cases claim
  | reply a b c d => cases claim

theorem State.QueueKeeps.length_le {s : State} (h : s.QueueKeeps 0) : s.line.queue.length ≤ 14 := by
  have length := length_by_kind s.line.telegrams
  rw [Line.telegrams, List.length_map, ← Line.telegrams] at length
  have digests := List.nodup_iff_count_le_one.mp h.nodup .digest
  have claims := h.claims_le
  have entries := h.entries
  have findings := h.findings
  have replies := h.replies
  omega

/-- Settles O60: every move keeps the law of the transmit queue, and the limits of the kinds add up to 14. -/
theorem stepKeepsQueue : Obligations.StepKeepsQueue := by
  intro s t h stepped
  have after : t.QueueKeeps 0 := step_keeps (P := State.QueueKeeps 0) (fun _ _ => Move.queue)
    (fun _ h => h.congr rfl rfl) (fun _ _ h => h.congr rfl rfl) (State.queueLawful_iff.mp h) stepped
  exact ⟨State.queueLawful_iff.mpr after, after.length_le⟩

end Sys2Proof.Machine
end

/-! The finding list and the candidates (R158 to R166): a candidate is CONFIRMED or RECOVERING exactly when a record of
its key says so, at most 24 records stand, and none that is done with (O59). The candidates enter as a view, the state of
the candidate with a key, so that the law can be followed while a completion hands the candidates over one by one. -/

section
namespace Sys2Proof.Machine

/-! ### A record list over a view of the candidates -/

/-- The state of the candidate with each key, where there is one. -/
abbrev CandView := Key → Option CandState

/-- A candidate that is neither CONFIRMED nor RECOVERING, or none at all. -/
def Idle (c : Option CandState) : Prop := ∀ x, c = some x → x.confirmedOrRecovering = false

/-- The law of the finding list over a view of the candidates. -/
structure RecordLaw (v : CandView) (l : List Finding) : Prop where
  keys : (l.map Finding.key).Nodup
  told : ∀ k c, v k = some c → c.confirmedOrRecovering = true → ∃ f ∈ l, f.key = k ∧ f.status.reports c = true
  active : ∀ f ∈ l, f.status.isActive = true → ∃ c, v f.key = some c ∧ f.status.reports c = true
  bound : l.length ≤ 24
  kept : ∀ f ∈ l, f.done = false

/-- A view of at most 22 candidates. -/
def CandView.Few (v : CandView) : Prop := ∃ ks : List Key, ks.length ≤ 22 ∧ ∀ k, v k ≠ none → k ∈ ks

theorem RecordStatus.isActive_of_reports {r : RecordStatus} {c : CandState} (h : r.reports c = true) :
    r.isActive = true := by
  cases r <;> cases c <;> first | rfl | cases h

theorem RecordStatus.confirmedOrRecovering_of_reports {r : RecordStatus} {c : CandState} (h : r.reports c = true) :
    c.confirmedOrRecovering = true := by
  cases r <;> cases c <;> first | rfl | cases h

theorem Finding.done_of_active {f : Finding} (h : f.status.isActive = true) : f.done = false := by
  simp [Finding.done, h]

/-! ### Changing the record of one key -/

theorem changeRecord_keys {k : Key} {g : Finding → Finding} (key : ∀ r, (g r).key = r.key) (l : List Finding) :
    ((changeRecord k g l).map Finding.key).Sublist (l.map Finding.key) := by
  have same : (l.map fun r => if r.key == k then g r else r).map Finding.key = l.map Finding.key := by
    rw [List.map_map]
    exact List.map_congr_left fun r _ => by simp only [Function.comp]; split <;> simp [key]
  rw [← same]
  exact List.filter_sublist.map _

theorem changeRecord_length (k : Key) (g : Finding → Finding) (l : List Finding) :
    (changeRecord k g l).length ≤ l.length :=
  (List.length_filter_le _ _).trans (by simp)

namespace RecordLaw

variable {v w : CandView} {l : List Finding}

/-- An active record of a key whose candidate is idle does not stand. -/
theorem not_active_of_idle (h : RecordLaw v l) {f : Finding} (mem : f ∈ l) (idle : Idle (v f.key)) :
    f.status.isActive = false := by
  rw [← Bool.not_eq_true]
  intro active
  obtain ⟨c, found, reports⟩ := h.active f mem active
  exact absurd (RecordStatus.confirmedOrRecovering_of_reports reports) (by simp [idle c found])

/-- The record of one key and the candidate of that key change together. -/
theorem change (h : RecordLaw v l) {k : Key} {g : Finding → Finding} (key : ∀ r, (g r).key = r.key)
    (others : ∀ k', k' ≠ k → w k' = v k')
    (active : ∀ r ∈ l, r.key = k → (g r).status.isActive = true → ∃ c, w k = some c ∧ (g r).status.reports c = true)
    (told : ∀ c, w k = some c → c.confirmedOrRecovering = true →
      ∃ r ∈ l, r.key = k ∧ (g r).status.reports c = true) : RecordLaw w (changeRecord k g l) where
  keys := h.keys.sublist (changeRecord_keys key l)
  told k' c found confirmed := by
    by_cases same : k' = k
    · subst same
      obtain ⟨r, mem, rkey, reports⟩ := told c found confirmed
      refine ⟨g r, (mem_changeRecord key).mpr (.inr ⟨r, mem, rkey, rfl, ?_⟩), (key r).trans rkey, reports⟩
      exact Finding.done_of_active (RecordStatus.isActive_of_reports reports)
    · rw [others k' same] at found
      obtain ⟨f, mem, fkey, reports⟩ := h.told k' c found confirmed
      exact ⟨f, (mem_changeRecord key).mpr (.inl ⟨mem, fkey ▸ same⟩), fkey, reports⟩
  active f mem act := by
    rcases (mem_changeRecord key).mp mem with ⟨old, other⟩ | ⟨r, old, rkey, rfl, -⟩
    · rw [others f.key other]
      exact h.active f old act
    · rw [key, rkey]
      exact active r old rkey act
  bound := (changeRecord_length k g l).trans h.bound
  kept f mem := by
    rcases (mem_changeRecord key).mp mem with ⟨old, -⟩ | ⟨r, -, -, rfl, alive⟩
    · exact h.kept f old
    · exact alive

/-- A change of a record that leaves its status alone. -/
theorem retold (h : RecordLaw v l) (k : Key) {g : Finding → Finding} (key : ∀ r, (g r).key = r.key)
    (status : ∀ r, (g r).status = r.status) : RecordLaw v (changeRecord k g l) := by
  refine h.change key (fun _ _ => rfl) (fun r mem rkey act => ?_) fun c found confirmed => ?_
  · rw [status] at act ⊢
    exact rkey ▸ h.active r mem act
  · obtain ⟨f, mem, fkey, reports⟩ := h.told k c found confirmed
    exact ⟨f, mem, fkey, by rwa [status]⟩

/-- The view of a candidate without a record changes, and it stays without one. -/
theorem idle (h : RecordLaw v l) {k : Key} (others : ∀ k', k' ≠ k → w k' = v k') (before : Idle (v k))
    (after : Idle (w k)) : RecordLaw w l where
  keys := h.keys
  told k' c found confirmed := by
    by_cases same : k' = k
    · subst same
      exact absurd confirmed (by simp [after c found])
    · exact h.told k' c (others k' same ▸ found) confirmed
  active f mem act := by
    by_cases same : f.key = k
    · exact absurd act (by simp [h.not_active_of_idle mem (same ▸ before)])
    · exact others f.key same ▸ h.active f mem act
  bound := h.bound
  kept := h.kept

/-- A candidate whose state changes between CONFIRMED and RECOVERING, its active record with it. -/
theorem turn (h : RecordLaw v l) {k : Key} {b a : CandState} {g : Finding → Finding} (key : ∀ r, (g r).key = r.key)
    (others : ∀ k', k' ≠ k → w k' = v k') (before : v k = some b) (after : w k = some a)
    (confirmed : b.confirmedOrRecovering = true) (reports : ∀ r, (g r).status.reports a = true) :
    RecordLaw w (changeRecord k (fun r => if r.status.isActive then g r else r) l) := by
  refine h.change (fun r => by split <;> simp [key]) others (fun r mem rkey act => ?_) fun c found _ => ?_
  · split at act
    · rw [if_pos ‹_›]
      exact ⟨a, after, reports r⟩
    · exact absurd act ‹_›
  · obtain ⟨f, mem, fkey, was⟩ := h.told k b before confirmed
    obtain rfl := Option.some.inj (after.symm.trans found)
    exact ⟨f, mem, fkey, by rw [if_pos (RecordStatus.isActive_of_reports was)]; exact reports f⟩

/-- A candidate that ends or falls back, its active record becoming inactive. -/
theorem release (h : RecordLaw v l) {k : Key} {g : Finding → Finding} (key : ∀ r, (g r).key = r.key)
    (others : ∀ k', k' ≠ k → w k' = v k') (after : Idle (w k)) (inactive : ∀ r, (g r).status.isActive = false) :
    RecordLaw w (changeRecord k (fun r => if r.status.isActive then g r else r) l) := by
  refine h.change (fun r => by split <;> simp [key]) others (fun r mem rkey act => ?_) fun c found confirmed => ?_
  · split at act
    · exact absurd act (by simp [inactive])
    · exact absurd act ‹_›
  · exact absurd confirmed (by simp [after c found])

/-! ### A new record -/

/-- At most 22 records are active, so that a full list has room to make (R158, R159). -/
theorem room (h : RecordLaw v l) (few : v.Few) (k : Key) : (makeRoom (l.filter fun r => r.key != k)).length ≤ 23 := by
  obtain ⟨ks, most, dom⟩ := few
  refine length_makeRoom ((List.length_filter_le _ _).trans h.bound) fun full => ?_
  by_contra none_inactive
  push Not at none_inactive
  have nodup : ((l.filter fun r => r.key != k).map Finding.key).Nodup := h.keys.sublist (List.filter_sublist.map _)
  have inside : (l.filter fun r => r.key != k).map Finding.key ⊆ ks := by
    intro key mem
    obtain ⟨f, stands, rfl⟩ := List.mem_map.mp mem
    obtain ⟨c, found, -⟩ := h.active f (List.mem_filter.mp stands).1 (by simpa using none_inactive f stands)
    exact dom _ (by simp [found])
  have few := (nodup.subperm inside).length_le
  rw [List.length_map, full] at few
  omega

theorem makeRoom_sublist (l : List Finding) : (makeRoom l).Sublist l := by
  unfold makeRoom
  split
  · exact List.eraseP_sublist
  · exact .refl l

theorem mem_appendRecord {k : Key} {holder : Holder} {announced : Bool} {score : Nat} {sequence : Byte} {f : Finding}
    (mem : f ∈ appendRecord k holder announced score sequence l) :
    (f ∈ l ∧ f.key ≠ k) ∨ (f.key = k ∧ f.status = .confirmed) := by
  rcases List.mem_append.mp mem with old | new
  · obtain ⟨mem, other⟩ := List.mem_filter.mp ((makeRoom_sublist _).subset old)
    exact .inl ⟨mem, by simpa using other⟩
  · obtain rfl := List.mem_singleton.mp new
    exact .inr ⟨rfl, rfl⟩

/-- A new record takes the place of an old one of its key (R158, R159). -/
theorem appendRecord_keys (keys : (l.map Finding.key).Nodup) (k : Key) (holder : Holder) (announced : Bool) (score : Nat)
    (sequence : Byte) : ((appendRecord k holder announced score sequence l).map Finding.key).Nodup := by
  have old : ((makeRoom (l.filter fun r => r.key != k)).map Finding.key).Sublist
      ((l.filter fun r => r.key != k).map Finding.key) := (makeRoom_sublist _).map _
  rw [appendRecord, List.map_append, List.nodup_append]
  refine ⟨keys.sublist (old.trans (List.filter_sublist.map _)), List.nodup_singleton _, fun x hx y hy => ?_⟩
  rintro rfl
  obtain ⟨f, mem, same⟩ := List.mem_map.mp (old.subset hx)
  have other := (List.mem_filter.mp mem).2
  rw [same, List.mem_singleton.mp hy] at other
  simp at other

/-- A candidate that confirms has a new record at the tail (R159). -/
theorem append (h : RecordLaw v l) (few : v.Few) {k : Key} (others : ∀ k', k' ≠ k → w k' = v k')
    (after : w k = some .confirmed) (holder : Holder) (announced : Bool) (score : Nat) (sequence : Byte) :
    RecordLaw w (appendRecord k holder announced score sequence l) where
  keys := appendRecord_keys h.keys ..
  told k' c found confirmed := by
    by_cases same : k' = k
    · subst same
      obtain rfl := Option.some.inj (after.symm.trans found)
      exact ⟨_, List.mem_append_right _ (List.mem_singleton_self _), rfl, rfl⟩
    · rw [others k' same] at found
      obtain ⟨f, mem, fkey, reports⟩ := h.told k' c found confirmed
      refine ⟨f, List.mem_append_left _ (mem_makeRoom_of_active (RecordStatus.isActive_of_reports reports) ?_), fkey,
        reports⟩
      exact List.mem_filter.mpr ⟨mem, by simpa [fkey] using same⟩
  active f mem act := by
    rcases mem_appendRecord mem with ⟨old, other⟩ | ⟨fkey, status⟩
    · exact others f.key other ▸ h.active f old act
    · exact ⟨_, fkey ▸ after, by rw [status]; rfl⟩
  bound := by
    have room := h.room few k
    rw [appendRecord, List.length_append, List.length_singleton]
    omega
  kept f mem := by
    rcases mem_appendRecord mem with ⟨old, -⟩ | ⟨-, status⟩
    · exact h.kept f old
    · exact Finding.done_of_active (by rw [status]; rfl)

end RecordLaw

/-! ### The view of a state -/

/-- The state of every candidate of the part (R60, R62). -/
def State.view (s : State) : CandView := fun k => (s.candidate k).map Scored.state

theorem State.view_pair (s : State) (p : Nat) : s.view (pairKey p) = (s.entry p).map fun e => e.pair.state := by
  simp [State.view, State.candidate, pairKey, Function.comp_def]

theorem key_eq_pairKey {k : Key} (h : k.kind = .crossFight) : k = pairKey k.subject := by
  obtain ⟨kind, subject⟩ := k
  simp only at h
  rw [h]
  rfl

/-- Two states with the same local candidates and the same states of pairs have one view. -/
theorem State.view_congr {s t : State} (locals : t.locals = s.locals)
    (pairs : ∀ p, ((t.entry p).map fun e => e.pair.state) = (s.entry p).map fun e => e.pair.state) : t.view = s.view := by
  funext k
  by_cases pair : k.kind = .crossFight
  · rw [key_eq_pairKey pair, State.view_pair, State.view_pair, pairs]
  · simp [State.view, State.candidate, pair, locals]

/-- A view that differs in one pair alone. -/
theorem State.view_others {s t : State} {p : Nat} (locals : t.locals = s.locals)
    (pairs : ∀ q, q ≠ p → t.entry q = s.entry q) : ∀ k, k ≠ pairKey p → t.view k = s.view k := by
  intro k other
  by_cases pair : k.kind = .crossFight
  · rw [key_eq_pairKey pair, State.view_pair, State.view_pair, pairs]
    rintro rfl
    exact other (key_eq_pairKey pair)
  · simp [State.view, State.candidate, pair, locals]

theorem State.entry_update {s t : State} {p : Nat} {f : Entry → Entry} (table : t.table = s.table.update p f)
    (station : ∀ e, (f e).station = e.station) (q : Nat) :
    t.entry q = if q = p then (s.entry p).map f else s.entry q := by
  rw [State.entry, table]
  exact s.table.find_update p q f station

theorem State.view_update {s t : State} {p : Nat} {f : Entry → Entry} (locals : t.locals = s.locals)
    (table : t.table = s.table.update p f) (station : ∀ e, (f e).station = e.station)
    (pair : ∀ e, (f e).pair = e.pair) : t.view = s.view :=
  State.view_congr locals fun q => by
    rw [State.entry_update table station]
    split
    · rename_i same
      rw [same, Option.map_map]
      simp [Function.comp_def, pair]
    · rfl

theorem localKeys_kind {k : Key} (h : k ∈ localKeys) : k.kind ≠ .crossFight := by
  revert k
  decide

theorem localKeys_nodup : localKeys.Nodup := by decide

/-- What a state keeps besides the law of its list, on which that law rests (R60, R81). -/
structure State.Listed (s : State) : Prop where
  locals : s.locals.map LocalCandidate.key = localKeys
  distinct : s.StationsDistinct
  entries : s.table.entries.length ≤ 8

theorem State.Listed.view_local {s : State} (h : s.Listed) {x : LocalCandidate} (mem : x ∈ s.locals) :
    s.view x.key = some x.scored.state := by
  have inj := List.inj_on_of_nodup_map (h.locals ▸ localKeys_nodup : (s.locals.map LocalCandidate.key).Nodup)
  have kind := localKeys_kind (h.locals ▸ List.mem_map_of_mem mem : x.key ∈ localKeys)
  cases found : s.locals.find? fun c => c.key == x.key with
  | none => exact absurd (List.find?_eq_none.mp found x mem) (by simp)
  | some y =>
    have same : y = x := inj (List.mem_of_find?_eq_some found) mem (by simpa using List.find?_some found)
    simp [State.view, State.candidate, kind, found, same]

theorem State.view_of_local {s : State} {k : Key} {c : CandState} (kind : k.kind ≠ .crossFight) (found : s.view k = some c) :
    ∃ x ∈ s.locals, x.key = k ∧ x.scored.state = c := by
  simp only [State.view, State.candidate, beq_iff_eq, kind, if_false, Option.map_map, Option.map_eq_some_iff] at found
  obtain ⟨x, hx, rfl⟩ := found
  exact ⟨x, List.mem_of_find?_eq_some hx, by simpa using List.find?_some hx, rfl⟩

theorem State.Listed.few {s : State} (h : s.Listed) : s.view.Few := by
  refine ⟨localKeys ++ s.table.entries.map fun e => pairKey e.station, ?_, fun k present => ?_⟩
  · have entries := h.entries
    rw [List.length_append, List.length_map]
    change 14 + _ ≤ 22
    omega
  · obtain ⟨c, found⟩ := Option.ne_none_iff_exists'.mp present
    rw [List.mem_append]
    by_cases pair : k.kind = .crossFight
    · rw [key_eq_pairKey pair, State.view_pair] at found
      obtain ⟨e, entry, -⟩ := Option.map_eq_some_iff.mp found
      obtain ⟨mem, station⟩ := State.entry_spec entry
      exact .inr (List.mem_map.mpr ⟨e, mem, by rw [station, ← key_eq_pairKey pair]⟩)
    · obtain ⟨x, mem, rfl, -⟩ := State.view_of_local pair found
      exact .inl (h.locals ▸ List.mem_map_of_mem mem)

/-- `ListBounded` said over the view. -/
theorem State.listBounded_iff {s : State} : s.ListBounded ↔ s.Listed ∧ RecordLaw s.view s.report.findings := by
  have done_iff : ∀ f : Finding, (¬(f.status.isActive = false ∧ f.acknowledged = true ∧ f.announced = true)) ↔
      f.done = false := by
    intro f
    simp [Finding.done]
  constructor
  · rintro ⟨⟨keys, locals, distinct, toldLocal, toldPair, active⟩, entries, bound, kept⟩
    have listed : s.Listed := ⟨locals, distinct, entries⟩
    refine ⟨listed, keys, fun k c found confirmed => ?_, fun f mem act => ?_, bound, fun f mem =>
      (done_iff f).mp (kept f mem)⟩
    · by_cases pair : k.kind = .crossFight
      · rw [key_eq_pairKey pair, State.view_pair] at found
        obtain ⟨e, entry, rfl⟩ := Option.map_eq_some_iff.mp found
        obtain ⟨mem, station⟩ := State.entry_spec entry
        obtain ⟨f, fmem, fkey, reports⟩ := toldPair e mem confirmed
        exact ⟨f, fmem, by rw [fkey, station, ← key_eq_pairKey pair], reports⟩
      · obtain ⟨x, mem, rfl, rfl⟩ := State.view_of_local pair found
        exact toldLocal x mem confirmed
    · rcases active f mem act with ⟨x, xmem, xkey, reports⟩ | ⟨e, emem, ekey, reports⟩
      · exact ⟨_, xkey ▸ listed.view_local xmem, reports⟩
      · refine ⟨e.pair.state, ?_, reports⟩
        rw [← ekey, State.view_pair, distinct.entry_eq emem]
        rfl
  · rintro ⟨listed, law⟩
    obtain ⟨locals, distinct, entries⟩ := id listed
    refine ⟨⟨law.keys, locals, distinct, fun x mem confirmed => law.told _ _ (listed.view_local mem) confirmed,
      fun e mem confirmed => law.told _ _ ?_ confirmed, fun f mem act => ?_⟩, entries, law.bound, fun f mem =>
      (done_iff f).mpr (law.kept f mem)⟩
    · rw [State.view_pair, distinct.entry_eq mem]
      rfl
    · obtain ⟨c, found, reports⟩ := law.active f mem act
      by_cases pair : f.key.kind = .crossFight
      · rw [key_eq_pairKey pair, State.view_pair] at found
        obtain ⟨e, entry, rfl⟩ := Option.map_eq_some_iff.mp found
        obtain ⟨emem, station⟩ := State.entry_spec entry
        exact .inr ⟨e, emem, by rw [station, ← key_eq_pairKey pair], reports⟩
      · obtain ⟨x, xmem, xkey, rfl⟩ := State.view_of_local pair found
        exact .inl ⟨x, xmem, xkey, reports⟩

/-! ### Records while candidates keep their state -/

section
variable {v : CandView} {s : State} (h : RecordLaw v s.report.findings)

include h

theorem modActiveRecord_law (k : Key) {g : Finding → Finding} (key : ∀ r, (g r).key = r.key)
    (status : ∀ r, (g r).status = r.status) : RecordLaw v (s.modActiveRecord k g).report.findings :=
  h.retold k (fun r => by split <;> simp [key]) fun r => by split <;> simp [status]

theorem handScore_law (k : Key) (score : Nat) : RecordLaw v (s.handScore k score).report.findings :=
  modActiveRecord_law h k (fun _ => rfl) fun _ => rfl

theorem recordClaiming_law (p : Nat) : RecordLaw v (s.recordClaiming p).report.findings :=
  modActiveRecord_law h _ (fun _ => rfl) fun _ => rfl

theorem recordSettled_law (p : Nat) (c : Bool) : RecordLaw v (s.recordSettled p c).report.findings :=
  modActiveRecord_law h _ (fun _ => rfl) fun _ => rfl

theorem recordFollows_law (p : Nat) : RecordLaw v (s.recordFollows p).report.findings := by
  unfold State.recordFollows
  dsimp only
  split
  · exact modActiveRecord_law (s := s.modLine (.withdraw (.finding (pairKey p)))) h _ (fun _ => by rfl) fun _ => by rfl
  · exact modActiveRecord_law h _ (fun _ => by rfl) fun _ => by rfl

theorem findingSent_law (k : Key) (carried : RecordStatus) : RecordLaw v (s.findingSent k carried).report.findings :=
  h.retold k (fun r => by unfold Finding.told; split <;> rfl) fun r => by unfold Finding.told; split <;> rfl

theorem acknowledgeRecord_law (k : Key) : RecordLaw v (s.acknowledgeRecord k).report.findings :=
  h.retold k (fun _ => rfl) fun _ => rfl

theorem testClaim_law (p : Nat) : RecordLaw v (s.testClaim p).report.findings := by
  cases found : s.entry p with
  | none => rwa [testClaim_of_absent found]
  | some e =>
    rw [testClaim_of_entry found]
    split
    · exact recordClaiming_law (s := (s.modLine (.submit (.claim p))).modEntry p _) h p
    · exact h

omit h in
theorem withdrawIfClaiming_report (p : Nat) (s : State) : (s.withdrawIfClaiming p).report = s.report := by
  unfold State.withdrawIfClaiming
  split <;> rfl

theorem becomeFollower_law (p : Nat) : RecordLaw v (s.becomeFollower p).report.findings := by
  refine recordFollows_law (s := (s.withdrawIfClaiming p).modEntry p _) ?_ p
  rw [State.modEntry_report, withdrawIfClaiming_report]
  exact h

theorem unfollow_law (p : Nat) : RecordLaw v (s.unfollow p).report.findings := by
  unfold State.unfollow
  split
  · exact testClaim_law (s := s.modEntry p _) h p
  · exact h

theorem settleHolder_law (p : Nat) (c : Bool) : RecordLaw v (s.settleHolder p c).report.findings :=
  recordSettled_law (s := (s.modLine (.leave (.claim p))).modEntry p _) h p c

omit h in
theorem claimRetry_report (p : Nat) (lost : Bool) (s : State) :
    (s.claimRetry p lost).report = s.report ∨ ∃ u : State, u.report = s.report ∧
      (s.claimRetry p lost) = (u.settleHolder p false).flagTelegramDiscarded := by
  have spent : ∀ u : State, u.report = s.report →
      (if (u.entry p).any (fun e => 16 ≤ e.claimAttempts) then (u.settleHolder p false).flagTelegramDiscarded
        else u).report = s.report ∨ ∃ u' : State, u'.report = s.report ∧
      (if (u.entry p).any (fun e => 16 ≤ e.claimAttempts) then (u.settleHolder p false).flagTelegramDiscarded
        else u) = (u'.settleHolder p false).flagTelegramDiscarded := by
    intro u same
    split
    · exact .inr ⟨u, same, rfl⟩
    · exact .inl same
  unfold State.claimRetry
  dsimp only
  apply spent
  split <;> rfl

theorem claimRetry_law (p : Nat) (lost : Bool) : RecordLaw v (s.claimRetry p lost).report.findings := by
  rcases claimRetry_report p lost s with same | ⟨u, same, spent⟩
  · rwa [same]
  · rw [spent]
    exact settleHolder_law (s := u) (same ▸ h) p false

theorem coordinate_law (p : Nat) (before after : CandState) :
    RecordLaw v (s.coordinate p before after).report.findings := by
  unfold State.coordinate
  dsimp only
  refine testClaim_law ?_ p
  split
  · split
    · rw [State.modEntry_report, withdrawIfClaiming_report]
      exact h
    · rw [withdrawIfClaiming_report]
      exact h
  · exact h

end

/-! ### A transition handed over (R159, R160) -/

/-- The view with one candidate's state replaced. -/
def CandView.set (v : CandView) (k : Key) (c : CandState) : CandView := fun k' => if k' = k then some c else v k'

theorem CandView.set_self (v : CandView) (k : Key) (c : CandState) : v.set k c k = some c := if_pos rfl
theorem CandView.set_other (v : CandView) {k : Key} (c : CandState) (k' : Key) (h : k' ≠ k) : v.set k c k' = v k' :=
  if_neg h

/-- One transition test leads only to the states that R66 names. -/
theorem nextState_cases (state : CandState) (score : Nat) :
    nextState state score = state ∨
      (state = .clear ∧ nextState state score = .suspect) ∨ (state = .suspect ∧ nextState state score = .clear) ∨
      (state = .suspect ∧ nextState state score = .confirmed) ∨
      (state = .confirmed ∧ nextState state score = .recovering) ∨
      (state = .recovering ∧ nextState state score = .confirmed) ∨
      (state = .recovering ∧ nextState state score = .clear) := by
  cases state with
  | clear => rw [nextState_clear]; split <;> simp
  | suspect => rw [nextState_suspect]; split_ifs <;> simp
  | confirmed => rw [nextState_confirmed]; split <;> simp
  | recovering => rw [nextState_recovering]; split_ifs <;> simp

theorem idle_of_not_confirmed {c : CandState} (h : c.confirmedOrRecovering = false) : Idle (some c) := by
  rintro x ⟨⟩
  exact h

/-- A transition that R66 allows, handed over for a candidate that stands at its state before it, or idle where the
reservation check has set it to CLEAR, brings the list to its state after. -/
theorem reportTransition_law {v : CandView} {s : State} (h : RecordLaw v s.report.findings) (few : v.Few) {k : Key}
    {stood before after : CandState} (now : v k = some stood)
    (agrees : stood = before ∨ stood.confirmedOrRecovering = false ∧ before.confirmedOrRecovering = false)
    (allowed : ∃ n, after = nextState before n) (score : Nat) (holder : Holder) (announced : Bool) :
    RecordLaw (v.set k after) (s.reportTransition k before after score holder announced).report.findings := by
  have others := v.set_other (k := k) after
  have here := v.set_self k after
  have idleBefore : before.confirmedOrRecovering = false → Idle (v k) := fun b => by
    rw [now]
    rcases agrees with rfl | ⟨idle, -⟩
    · exact idle_of_not_confirmed b
    · exact idle_of_not_confirmed idle
  have stoodAt : before.confirmedOrRecovering = true → v k = some before := fun b => by
    rcases agrees with rfl | ⟨-, idle⟩
    · exact now
    · simp [idle] at b
  obtain ⟨n, allowed⟩ := allowed
  rcases nextState_cases before n with same | ⟨rfl, turns⟩ | ⟨rfl, turns⟩ | ⟨rfl, turns⟩ | ⟨rfl, turns⟩ | ⟨rfl, turns⟩
    | ⟨rfl, turns⟩
  · have same : after = before := allowed.trans same
    subst same
    have quiet : (s.reportTransition k after after score holder announced) = s := by cases after <;> rfl
    rw [quiet]
    by_cases confirmed : after.confirmedOrRecovering = true
    · have unchanged : v.set k after = v := by
        funext k'
        by_cases this : k' = k
        · rw [this, here, stoodAt confirmed]
        · exact others k' this
      rwa [unchanged]
    · rw [Bool.not_eq_true] at confirmed
      exact h.idle others (idleBefore confirmed) (here ▸ idle_of_not_confirmed confirmed)
  · obtain rfl := allowed.trans turns
    exact h.idle others (idleBefore rfl) (here ▸ idle_of_not_confirmed rfl)
  · obtain rfl := allowed.trans turns
    exact h.idle others (idleBefore rfl) (here ▸ idle_of_not_confirmed rfl)
  · obtain rfl := allowed.trans turns
    exact h.append few others here holder announced score _
  · obtain rfl := allowed.trans turns
    exact h.turn (fun _ => rfl) others (stoodAt rfl) here rfl fun _ => rfl
  · obtain rfl := allowed.trans turns
    exact h.turn (fun _ => rfl) others (stoodAt rfl) here rfl fun _ => rfl
  · obtain rfl := allowed.trans turns
    exact h.release (fun _ => rfl) others (here ▸ idle_of_not_confirmed rfl) fun _ => rfl

theorem CandView.Few.set {v : CandView} (few : v.Few) {k : Key} (present : v k ≠ none) (c : CandState) :
    (v.set k c).Few := by
  obtain ⟨ks, most, dom⟩ := few
  refine ⟨ks, most, fun k' present' => ?_⟩
  by_cases same : k' = k
  · exact same ▸ dom k present
  · exact dom k' (by rwa [v.set_other c k' same] at present')

/-- A hand-over that R66 allows, for a candidate of the view. -/
structure Handed.Fits (v : CandView) (x : Handed) : Prop where
  stands : ∃ stood, v x.key = some stood ∧
    (stood = x.before ∨ stood.confirmedOrRecovering = false ∧ x.before.confirmedOrRecovering = false)
  allowed : ∃ n, x.after = nextState x.before n

theorem Handed.Fits.congr {v w : CandView} {x : Handed} (h : x.Fits v) (same : w x.key = v x.key) : x.Fits w :=
  ⟨same ▸ h.stands, h.allowed⟩

theorem handLocal_law {v : CandView} {s : State} (h : RecordLaw v s.report.findings) (few : v.Few) {x : Handed}
    (fits : x.Fits v) : RecordLaw (v.set x.key x.after) (s.handLocal x).report.findings := by
  obtain ⟨⟨stood, now, agrees⟩, allowed⟩ := fits
  have moved := reportTransition_law h few now agrees allowed x.score .self false
  unfold State.handLocal
  dsimp only
  split
  · exact handScore_law moved _ _
  · exact moved

theorem handPair_law {v : CandView} {s : State} (h : RecordLaw v s.report.findings) (few : v.Few) {x : Handed}
    (fits : x.Fits v) (p : Nat) : RecordLaw (v.set x.key x.after) (s.handPair p x).report.findings := by
  obtain ⟨⟨stood, now, agrees⟩, allowed⟩ := fits
  have moved := reportTransition_law (coordinate_law h p x.before x.after) few now agrees allowed x.score
  unfold State.handPair
  dsimp only
  split
  · exact handScore_law (moved _ true) _ _
  · exact moved _ true

/-! ### The whole update of the candidates -/

/-- The view once some candidates have been handed over. -/
def CandView.after (v : CandView) (l : List Handed) : CandView := l.foldl (fun v x => v.set x.key x.after) v

theorem CandView.after_other {l : List Handed} {k : Key} (h : ∀ x ∈ l, x.key ≠ k) (v : CandView) : v.after l k = v k := by
  induction l generalizing v with
  | nil => rfl
  | cons x l ih =>
    refine (ih (fun y hy => h y (List.mem_cons_of_mem _ hy)) (v.set x.key x.after)).trans ?_
    exact v.set_other x.after k fun same => h x (List.mem_cons_self ..) same.symm

theorem CandView.after_self {l : List Handed} (keys : (l.map Handed.key).Nodup) {x : Handed} (mem : x ∈ l)
    (v : CandView) : v.after l x.key = some x.after := by
  induction l generalizing v with
  | nil => cases mem
  | cons y l ih =>
    rw [List.map_cons, List.nodup_cons] at keys
    rcases List.mem_cons.mp mem with rfl | mem
    · have others : ∀ z ∈ l, z.key ≠ x.key := fun z hz same => keys.1 (by rw [← same]; exact List.mem_map_of_mem hz)
      exact (CandView.after_other others (v.set x.key x.after)).trans (v.set_self x.key x.after)
    · exact ih keys.2 mem _

/-- Candidates of different keys handed over one after the other. -/
theorem handed_law {α : Type} {hand : State → α → State} {info : α → Handed}
    (each : ∀ (v : CandView) (u : State) (a : α), RecordLaw v u.report.findings → v.Few → (info a).Fits v →
      RecordLaw (v.set (info a).key (info a).after) (hand u a).report.findings)
    (l : List α) {v : CandView} {s : State} (keys : ((l.map info).map Handed.key).Nodup) (fits : ∀ a ∈ l, (info a).Fits v)
    (few : v.Few) (h : RecordLaw v s.report.findings) :
    (v.after (l.map info)).Few ∧ RecordLaw (v.after (l.map info)) (l.foldl hand s).report.findings := by
  induction l generalizing v s with
  | nil => exact ⟨few, h⟩
  | cons a l ih =>
    rw [List.map_cons, List.map_cons, List.nodup_cons] at keys
    have first := fits a (List.mem_cons_self ..)
    refine ih keys.2 (fun b hb => (fits b (List.mem_cons_of_mem _ hb)).congr ?_) (few.set ?_ _) (each v s a h few first)
    · refine v.set_other _ _ fun same => keys.1 ?_
      rw [← same, List.map_map]
      exact List.mem_map_of_mem (f := Handed.key ∘ info) hb
    · obtain ⟨⟨stood, now, -⟩, -⟩ := first
      simp [now]

theorem LocalCandidate.evaluate_allowed (c : Configuration) (b : Bank) (changed : Bool) (x : LocalCandidate) :
    ∃ n, (x.evaluate c b changed).scored.state = nextState x.scored.state n := by
  unfold LocalCandidate.evaluate
  split
  · exact ⟨_, rfl⟩
  · cases state : x.scored.state with
    | clear => exact ⟨0, rfl⟩
    | suspect => exact ⟨100, rfl⟩
    | confirmed => exact ⟨500, rfl⟩
    | recovering => exact ⟨100, rfl⟩

@[simp] theorem LocalCandidate.evaluate_key (c : Configuration) (b : Bank) (changed : Bool) (x : LocalCandidate) :
    (x.evaluate c b changed).key = x.key := by
  unfold LocalCandidate.evaluate
  split <;> rfl

theorem LocalCandidate.handed_fits {s : State} (h : s.Listed) {x : LocalCandidate} (mem : x ∈ s.locals)
    (c : Configuration) (b : Bank) (changed : Bool) : (x.handed c b changed).Fits s.view :=
  ⟨⟨_, h.view_local mem, .inl rfl⟩, x.evaluate_allowed c b changed⟩

theorem Entry.testedFrom_or (epoch : Byte) (e : Entry) :
    e.pair.state = e.testedFrom epoch ∨
      e.pair.state.confirmedOrRecovering = false ∧ (e.testedFrom epoch).confirmedOrRecovering = false := by
  unfold Entry.testedFrom Entry.checkReservation
  split
  · split
    · exact .inl rfl
    · rename_i idle
      exact .inr ⟨by simpa using idle, rfl⟩
  · exact .inl rfl

theorem Entry.handed_fits {s : State} (distinct : s.StationsDistinct) {e : Entry} (mem : e ∈ s.table.entries) (fight : Nat)
    (own : Summary) : (e.handed fight own).Fits s.view := by
  refine ⟨⟨e.pair.state, ?_, e.testedFrom_or own.epoch⟩, ⟨_, e.evaluate_state fight own⟩⟩
  refine (s.view_pair e.station).trans ?_
  rw [distinct.entry_eq mem]
  rfl

theorem Entry.evaluated_pair (running : Bool) (fight : Nat) (own : Summary) (e : Entry) :
    (e.evaluated running fight own).pair = (e.evaluate fight own).pair := by
  unfold Entry.evaluated Entry.coordinate
  rw [Entry.claim_pair]
  split
  · rw [Entry.release_pair]
  · rfl

section
variable {s : State} (listed : s.Listed) (own : Summary)

/-- What the update of the candidates hands over, in its order. -/
def State.localsHanded (s : State) : List Handed :=
  s.locals.map (LocalCandidate.handed s.cfg s.acq.frozen s.eval.epochChanged)

/-- What the update of the candidates hands over for the pairs, in its order. -/
def State.pairsHanded (s : State) (own : Summary) : List Handed :=
  s.table.entries.map (Entry.handed s.cfg.params.fightEffort own)

include listed

theorem localsHanded_keys : (s.localsHanded.map Handed.key).Nodup := by
  rw [State.localsHanded, List.map_map]
  exact (listed.locals ▸ localKeys_nodup : (s.locals.map LocalCandidate.key).Nodup)

theorem pairsHanded_keys : ((s.pairsHanded own).map Handed.key).Nodup := by
  rw [State.pairsHanded, List.map_map]
  have same : s.table.entries.map (Handed.key ∘ Entry.handed s.cfg.params.fightEffort own)
      = (s.table.entries.map Entry.station).map pairKey := by
    rw [List.map_map]
    rfl
  rw [same]
  exact listed.distinct.map fun a b h => by simpa [pairKey] using h

theorem localsHanded_kind {x : Handed} (mem : x ∈ s.localsHanded) : x.key.kind ≠ .crossFight := by
  obtain ⟨y, hy, rfl⟩ := List.mem_map.mp mem
  exact localKeys_kind (listed.locals ▸ List.mem_map_of_mem hy : y.key ∈ localKeys)

/-- After the whole hand-over the view is that of the candidates as the evaluation left them. -/
theorem updateCandidates_view : (s.updateCandidates own).view = (s.view.after s.localsHanded).after (s.pairsHanded own) := by
  have locals := (updateCandidates_keeps own s).locals
  funext k
  by_cases pair : k.kind = .crossFight
  · obtain ⟨p, rfl⟩ : ∃ p, k = pairKey p := ⟨_, key_eq_pairKey pair⟩
    have untouched : s.view.after s.localsHanded (pairKey p) = s.view (pairKey p) :=
      CandView.after_other (fun x mem same => localsHanded_kind listed mem (same ▸ rfl)) _
    rw [State.view_pair, State.entry, updateCandidates_table own listed.distinct]
    simp only [NeighbourTable.find, List.find?_map, Function.comp_def, Entry.evaluated_station]
    cases found : s.entry p with
    | none =>
      have absent : (s.view.after s.localsHanded).after (s.pairsHanded own) (pairKey p) = s.view (pairKey p) := by
        refine (CandView.after_other (fun x mem same => ?_) _).trans untouched
        obtain ⟨e, he, rfl⟩ := List.mem_map.mp mem
        exact State.entry_eq_none_iff.mp found e he (by simpa [Entry.handed, pairKey] using same)
      rw [absent, State.view_pair, found]
      have found' : s.table.entries.find? (fun e => e.station == p) = none := found
      rw [found']
      rfl
    | some e =>
      obtain ⟨mem, rfl⟩ := State.entry_spec found
      have found' : s.table.entries.find? (fun x => x.station == e.station) = some e := found
      have here := CandView.after_self (pairsHanded_keys listed own)
        (List.mem_map_of_mem (f := Entry.handed s.cfg.params.fightEffort own) mem) (s.view.after s.localsHanded)
      refine Eq.trans ?_ here.symm
      rw [found']
      simp [Entry.evaluated_pair, Entry.handed]
  · have untouched : (s.view.after s.localsHanded).after (s.pairsHanded own) k = s.view.after s.localsHanded k :=
      CandView.after_other (fun x mem same => by
        obtain ⟨e, he, rfl⟩ := List.mem_map.mp mem
        exact pair (same ▸ rfl)) _
    rw [untouched]
    have lookup : (s.updateCandidates own).view k
        = (s.locals.find? fun c => c.key == k).map fun x =>
            (x.evaluate s.cfg s.acq.frozen s.eval.epochChanged).scored.state := by
      simp [State.view, State.candidate, pair, locals, List.find?_map, Function.comp_def]
    rw [lookup]
    cases found : s.locals.find? fun c => c.key == k with
    | none =>
      refine Eq.symm ((CandView.after_other (fun x mem same => ?_) _).trans ?_)
      · obtain ⟨y, hy, rfl⟩ := List.mem_map.mp mem
        exact List.find?_eq_none.mp found y hy (by simpa [LocalCandidate.handed] using same)
      · simp [State.view, State.candidate, pair, found]
    | some x =>
      obtain rfl : x.key = k := by simpa using List.find?_some found
      exact (CandView.after_self (localsHanded_keys listed) (List.mem_map_of_mem (List.mem_of_find?_eq_some found)) _).symm

theorem updateCandidates_law (h : RecordLaw s.view s.report.findings) :
    RecordLaw (s.updateCandidates own).view (s.updateCandidates own).report.findings := by
  rw [updateCandidates_view listed, updateCandidates_eq]
  obtain ⟨few, locals⟩ := handed_law (hand := fun u x => u.handLocal (x.handed s.cfg s.acq.frozen s.eval.epochChanged))
    (info := LocalCandidate.handed s.cfg s.acq.frozen s.eval.epochChanged)
    (fun v u x law few fits => handLocal_law law few fits) s.locals (s := s.rescored own) (localsHanded_keys listed)
    (fun x mem => LocalCandidate.handed_fits listed mem ..) listed.few h
  refine (handed_law (info := Entry.handed s.cfg.params.fightEffort own)
    (fun v u e law few fits => handPair_law law few fits e.station) s.table.entries (pairsHanded_keys listed own)
    (fun e mem => (Entry.handed_fits listed.distinct mem ..).congr ?_) few locals).2
  exact CandView.after_other (fun x hx same => localsHanded_kind listed hx (same ▸ rfl)) _

end

/-! ### The law of a state -/

/-- The law of the finding list, with what it rests on. -/
structure State.RecordsKept (s : State) : Prop where
  listed : s.Listed
  law : RecordLaw s.view s.report.findings

namespace State.RecordsKept

variable {s t : State}

/-- The candidates' states are as before, and the list keeps its law over them. -/
theorem same_view (h : s.RecordsKept) (frame : PairFrame s t) (view : t.view = s.view)
    (law : RecordLaw s.view t.report.findings) : t.RecordsKept :=
  ⟨⟨by rw [frame.locals]; exact h.listed.locals, frame.stationsDistinct h.listed.distinct,
    frame.length ▸ h.listed.entries⟩, view ▸ law⟩

/-- Only blocks that the law does not look at have changed. -/
theorem congr (h : s.RecordsKept) (locals : t.locals = s.locals) (entries : t.table.entries = s.table.entries)
    (findings : t.report.findings = s.report.findings) : t.RecordsKept := by
  obtain ⟨⟨keys, distinct, few⟩, law⟩ := h
  have view : t.view = s.view := State.view_congr locals fun p => by
    rw [State.entry, State.entry, NeighbourTable.find, NeighbourTable.find, entries]
  exact ⟨⟨by rw [locals]; exact keys, by rw [State.StationsDistinct, entries]; exact distinct, entries ▸ few⟩,
    by rw [view, findings]; exact law⟩

end State.RecordsKept

/-- A new state of the pair's candidate, from which an idle one sees nothing of its record. -/
theorem idle_entry {s : State} {p : Nat} (absent : s.entry p = none) : Idle (s.view (pairKey p)) := by
  rw [State.view_pair, absent]
  exact nofun

theorem endCandidate_report (e : Entry) (s : State) :
    (s.endCandidate e).report.findings =
      if e.pair.state.confirmedOrRecovering then
        changeRecord (pairKey e.station) (fun r => if r.status.isActive then r.withdrawn else r) s.report.findings
      else s.report.findings := by
  unfold State.endCandidate
  split <;> rfl

theorem removeEntry_report {p : Nat} {s : State} {e : Entry} (found : s.entry p = some e) :
    (s.removeEntry p).report = (s.endCandidate e).report := by
  simp only [State.removeEntry, found, State.modTable_report, withdrawIfClaiming_report]

/-- The law over a view from which one pair's candidate has gone (R73, R162). -/
theorem endCandidate_law {v w : CandView} {s : State} {e : Entry} (h : RecordLaw v s.report.findings)
    (now : v (pairKey e.station) = some e.pair.state) (others : ∀ k, k ≠ pairKey e.station → w k = v k)
    (gone : Idle (w (pairKey e.station))) : RecordLaw w (s.endCandidate e).report.findings := by
  rw [endCandidate_report]
  split
  · exact h.release (fun _ => rfl) others gone fun _ => rfl
  · rename_i idle
    exact h.idle others (now ▸ idle_of_not_confirmed (by simpa using idle)) gone

theorem recordsLaw : DigestLaw State.RecordsKept where
  refreshed p _ _ s h := h.same_view (.modEntry p s (fun _ => by rfl) fun _ => .inl (by rfl))
    (State.view_update rfl rfl (fun _ => by rfl) fun _ => by rfl) h.law
  unfollowed p s h := by
    refine h.same_view (unfollow_work p s).frame (State.view_update (unfollow_keepsCore p s).locals
      (unfollow_table h.listed.distinct p) (fun e => ?_) fun e => ?_) (unfollow_law h.law p)
    · unfold Entry.unfollow Entry.unhold; split <;> simp
    · unfold Entry.unfollow Entry.unhold; split <;> simp
  follower p s h := h.same_view (becomeFollower_work p s).frame (State.view_update (becomeFollower_keepsCore p s).locals
    (becomeFollower_table h.listed.distinct p) Entry.follow_station fun e => e.dropClaim_pair) (becomeFollower_law h.law p)
  removed p s h := by
    cases found : s.entry p with
    | none =>
      have same : s.removeEntry p = s := by simp [State.removeEntry, found]
      rwa [same]
    | some e =>
      obtain ⟨-, station⟩ := State.entry_spec found
      refine ⟨⟨by rw [(removeEntry_keepsCore p s).locals]; exact h.listed.locals,
        removeEntry_distinct p h.listed.distinct, ?_⟩, ?_⟩
      · rw [removeEntry_entries]
        exact (List.length_filter_le _ _).trans h.listed.entries
      · rw [removeEntry_report found]
        subst station
        refine endCandidate_law h.law (by rw [State.view_pair, found]; rfl) ?_ ?_
        · refine State.view_others (removeEntry_keepsCore _ s).locals fun q other => ?_
          rw [removeEntry_entry, if_neg other]
        · exact idle_entry (by rw [removeEntry_entry, if_pos rfl])
  enrolled p places d s h absent room := by
    have entry : ∀ q, q ≠ p → (s.enrol p places d).entry q = s.entry q := fun q other => by
      simp [State.entry, NeighbourTable.find, State.enrol, List.find?_append, newEntry, other.symm]
    refine ⟨⟨h.listed.locals, enrol_distinct places d h.listed.distinct absent, ?_⟩, ?_⟩
    · have fewer : s.table.entries.length < 8 := by
        rcases room with room | ⟨u, full, fewer⟩
        · exact room
        · have bound := full.listed.entries
          omega
      simpa [State.enrol] using fewer
    · refine h.law.idle (State.view_others rfl entry) (idle_entry absent) ?_
      have none_ : s.table.entries.find? (fun e => e.station == p) = none := absent
      rw [State.view_pair]
      simp only [State.entry, NeighbourTable.find, State.enrol, State.modTable_table, List.find?_append, none_,
        Option.none_or, List.find?_singleton, newEntry, beq_self_eq_true, if_true, Option.map_some]
      exact idle_of_not_confirmed rfl
  refused _ h := h.congr rfl rfl rfl
  duplicate _ h := h.congr rfl rfl rfl

theorem takeQuery_findings (source what start : Nat) (s : State) :
    (s.takeQuery source what start).report.findings = s.report.findings := by
  unfold State.takeQuery State.answerStatus State.answerList
  split
  · rfl
  · split <;> rfl

theorem takeOne_records (s : State) (r : Received) (h : s.RecordsKept) : (s.takeOne r).RecordsKept := by
  cases r with
  | digest source d => exact recordsLaw.takeDigest source d h
  | query source what start =>
    exact h.congr (takeQuery_keepsCore source what start s).locals
      (congrArg NeighbourTable.entries (takeQuery_table source what start s)) (takeQuery_findings source what start s)

theorem takeReceived_records (s : State) (h : s.RecordsKept) : s.takeReceived.RecordsKept :=
  foldl_keeps takeOne_records _ (s := s.modLine fun l => { l with received := [] }) (h.congr rfl rfl rfl)

theorem Entry.retry_pair (e : Entry) : e.retry.pair = e.pair := by
  unfold Entry.retry
  split <;> rfl

theorem Entry.retry_station (e : Entry) : e.retry.station = e.station := by
  unfold Entry.retry
  split <;> rfl

theorem applyClaimOutcome_records (p : Nat) (o : AttemptEnd) (s : State) (h : s.RecordsKept) :
    (s.applyClaimOutcome p o).RecordsKept := by
  have settled : ∀ c, (s.settleHolder p c).RecordsKept := fun c =>
    h.same_view (settleHolder_work p s c).frame (State.view_update (settleHolder_keepsCore p c s).locals
      (settleHolder_table p c s) (fun _ => rfl) fun _ => rfl) (settleHolder_law h.law p c)
  have retried : ∀ lost, (s.claimRetry p lost).RecordsKept := fun lost =>
    h.same_view (claimRetry_work p s lost).frame (State.view_update (claimRetry_keepsCore p lost s).locals
      (claimRetry_table h.listed.distinct p lost) Entry.retry_station Entry.retry_pair) (claimRetry_law h.law p lost)
  unfold State.applyClaimOutcome
  split
  · cases o with
    | repeatMark => exact retried false
    | contentionLoss => exact retried true
    | concur => exact settled true
    | noMark => exact settled false
    | stale =>
      have frame := (settleStale_work p s).frame
      have entry := State.entry_update (settleStale_table p s) (fun _ => rfl)
      refine ⟨⟨by rw [frame.locals]; exact h.listed.locals, frame.stationsDistinct h.listed.distinct,
        frame.length ▸ h.listed.entries⟩, ?_⟩
      refine h.law.release (fun _ => rfl) (State.view_others frame.locals fun q other => ?_) ?_ fun _ => rfl
      · rw [entry, if_neg other]
      · rw [State.view_pair, entry, if_pos rfl, Option.map_map]
        rintro c hc
        obtain ⟨e, -, rfl⟩ := Option.map_eq_some_iff.mp hc
        rfl
  · exact h

theorem applyHeld_records (s : State) (h : s.RecordsKept) : s.applyHeld.RecordsKept :=
  foldl_keeps (f := fun s (x : HeldOutcome) => s.applyClaimOutcome x.peer x.outcome)
    (fun s x h => applyClaimOutcome_records x.peer x.outcome s h) _ (s := s.modLine fun l => { l with held := [] })
    (h.congr rfl rfl rfl)

theorem updateCandidates_records (own : Summary) (s : State) (h : s.RecordsKept) :
    (s.updateCandidates own).RecordsKept := by
  refine ⟨⟨?_, ?_, ?_⟩, updateCandidates_law h.listed own h.law⟩
  · rw [(updateCandidates_keeps own s).locals]
    simpa [Function.comp_def] using h.listed.locals
  · rw [State.StationsDistinct, updateCandidates_table own h.listed.distinct]
    simpa [Function.comp_def] using h.listed.distinct
  · rw [updateCandidates_table own h.listed.distinct]
    simpa using h.listed.entries

theorem cleared_records {t : State} (locals : t.locals = localsCleared) (entries : t.table.entries = [])
    (findings : t.report.findings = []) : t.RecordsKept := by
  have idle : ∀ k, Idle (t.view k) := by
    intro k c found
    by_cases pair : k.kind = .crossFight
    · rw [key_eq_pairKey pair, State.view_pair] at found
      simp [State.entry, NeighbourTable.find, entries] at found
    · obtain ⟨x, mem, -, rfl⟩ := State.view_of_local pair found
      obtain ⟨k', -, rfl⟩ := List.mem_map.mp (locals ▸ mem)
      rfl
  refine ⟨⟨?_, by simp [State.StationsDistinct, entries], by simp [entries]⟩, ?_⟩
  · rw [locals, localsCleared, List.map_map]
    simp [Function.comp_def]
  · rw [findings]
    exact ⟨List.nodup_nil, fun k c found confirmed => absurd confirmed (by simp [idle k c found]), by simp, Nat.zero_le _,
      by simp⟩

/-! ### The warm restart -/

/-- The candidates of some entries ended: their view is gone, the law of the list stays (R73, R97). -/
theorem endAll_law (l : List Entry) {v : CandView} {s : State} (keys : (l.map fun e => pairKey e.station).Nodup)
    (now : ∀ e ∈ l, v (pairKey e.station) = some e.pair.state) (h : RecordLaw v s.report.findings) :
    RecordLaw (fun k => if k ∈ l.map (fun e => pairKey e.station) then none else v k)
      (l.foldl (fun s e => s.endCandidate e) s).report.findings := by
  induction l generalizing v s with
  | nil => simpa using h
  | cons e l ih =>
    rw [List.map_cons, List.nodup_cons] at keys
    have ended : RecordLaw (fun k => if k = pairKey e.station then none else v k) (s.endCandidate e).report.findings :=
      endCandidate_law h (now e (List.mem_cons_self ..)) (fun k other => if_neg other) (by simp [Idle])
    have rest := ih (v := fun k => if k = pairKey e.station then none else v k) keys.2 (fun f hf => by
      have other : pairKey f.station ≠ pairKey e.station := fun same => keys.1 (same ▸ List.mem_map_of_mem hf)
      rw [if_neg other]
      exact now f (List.mem_cons_of_mem _ hf)) ended
    have gone : (fun k => if k ∈ (e :: l).map (fun e => pairKey e.station) then none else v k)
        = fun k => if k ∈ l.map (fun e => pairKey e.station) then none
            else if k = pairKey e.station then none else v k := by
      funext k
      by_cases here : k = pairKey e.station <;> simp [here]
    rw [gone]
    exact rest

theorem warmRestart_records {s : State} (h : s.RecordsKept) : s.warmRestart.RecordsKept := by
  have stations : (s.table.entries.map fun e => pairKey e.station).Nodup := by
    have same : s.table.entries.map (fun e => pairKey e.station) = (s.table.entries.map Entry.station).map pairKey := by
      rw [List.map_map]
      rfl
    rw [same]
    exact h.listed.distinct.map fun a b hab => by simpa [pairKey] using hab
  have law := endAll_law s.table.entries stations (fun e mem => by
    rw [State.view_pair, h.listed.distinct.entry_eq mem]
    rfl) h.law
  rw [State.warmRestart_eq]
  have locals := (endAllCandidates_keepsCore s).locals
  refine ⟨⟨?_, by simp [State.StationsDistinct, NeighbourTable.restart], by simp [NeighbourTable.restart]⟩, ?_⟩
  · rw [enterRunning_locals, State.warmed_locals, locals, List.map_map]
    exact h.listed.locals
  · rw [enterRunning_report, State.warmed_report]
    suffices gone : s.endAllCandidates.warmed.enterRunning.view
        = fun k => if k ∈ s.table.entries.map (fun e => pairKey e.station) then none else s.view k by
      rw [gone]
      exact law
    funext k
    by_cases pair : k.kind = .crossFight
    · obtain ⟨p, rfl⟩ : ∃ p, k = pairKey p := ⟨_, key_eq_pairKey pair⟩
      have gone : s.endAllCandidates.warmed.enterRunning.view (pairKey p) = none := by
        rw [State.view_pair]
        simp [State.entry, NeighbourTable.find, NeighbourTable.restart]
      rw [gone]
      split
      · rfl
      · rename_i absent
        cases found : s.entry p with
        | none => rw [State.view_pair, found]; rfl
        | some e =>
          obtain ⟨mem, rfl⟩ := State.entry_spec found
          exact absurd (List.mem_map_of_mem (f := fun e => pairKey e.station) mem) absent
    · rw [if_neg fun mem => by
        obtain ⟨e, -, rfl⟩ := List.mem_map.mp mem
        exact pair rfl]
      simp [State.view, State.candidate, pair, locals, List.find?_map, Function.comp_def]

/-! ### Every move -/

theorem Move.records {s t : State} (h : s.RecordsKept) (move : Move s t) : t.RecordsKept := by
  cases move with
  | cleared => exact cleared_records rfl rfl rfl
  | activity f =>
    have view : (s.modLocals fun l => l.map fun x => { x with active := f x }).view = s.view := by
      funext k
      simp [State.view, State.candidate, List.find?_map, Function.comp_def]
    refine ⟨⟨?_, h.listed.distinct, h.listed.entries⟩, view ▸ h.law⟩
    rw [State.modLocals_locals, List.map_map]
    exact h.listed.locals
  | warm => exact warmRestart_records h
  | grown =>
    have view : (s.modTable fun t => { t with entries := t.entries.map Entry.grow }).view = s.view :=
      State.view_congr rfl fun p => by
        simp only [State.entry, NeighbourTable.find, State.modTable_table, List.find?_map, Option.map_map]
        rfl
    exact ⟨⟨h.listed.locals, by simpa [State.StationsDistinct, Entry.grow, Function.comp_def] using h.listed.distinct,
      by simpa using h.listed.entries⟩, view ▸ h.law⟩
  | settled p => exact recordsLaw.settleAge p h
  | completed t =>
    exact completed_keeps (P := State.RecordsKept) t (fun h => h.congr rfl rfl rfl) (updateCandidates_records _)
      (fun _ h => h.congr rfl rfl rfl) applyHeld_records takeReceived_records (fun _ h => h.congr rfl rfl rfl)
      (fun _ h => h.congr rfl rfl rfl) h
  | joinedTaken r => exact takeReceived_records _ (h.congr rfl rfl rfl)
  | taken r rest => exact takeOne_records _ r (h.congr rfl rfl rfl)
  | follower p => exact recordsLaw.follower p s h
  | outcome p o => exact applyClaimOutcome_records p o s h
  | told k carried => exact ⟨⟨h.listed.locals, h.listed.distinct, h.listed.entries⟩, findingSent_law h.law k carried⟩
  | acknowledged k => exact ⟨⟨h.listed.locals, h.listed.distinct, h.listed.entries⟩, acknowledgeRecord_law h.law k⟩
  | _ => exact h.congr rfl rfl rfl

/-- Settles O59: every move keeps the law of the finding list over the view of the candidates. -/
theorem stepKeepsRecords : Obligations.StepKeepsRecords := by
  intro s t h stepped
  obtain ⟨listed, law⟩ := State.listBounded_iff.mp h
  have after : t.RecordsKept := step_keeps (P := State.RecordsKept) (fun _ _ => Move.records)
    (fun _ h => h.congr rfl rfl rfl) (fun _ _ h => h.congr rfl rfl rfl) ⟨listed, law⟩ stepped
  exact State.listBounded_iff.mpr ⟨after.listed, after.law⟩

end Sys2Proof.Machine
end

/-! What an evaluation makes of a period record: reliability and means (O17), the two damper paths (O21), leakage (O22),
the valve and point outcomes (O23), the hunting tracker (O15), one entry at an evaluation (O28); and the match set of a
digest with the entry a newcomer may evict (O31). -/

section
namespace Sys2Proof.Machine

/-! ### Reliability and means (R31, R32) -/

theorem reliable_iff {c : Configuration} {b : Bank} {r : Role} :
    reliable c b r = true ↔
      c.mapped r = true ∧ c.expectedScans ≤ 2 * b.scansTaken
        ∧ b.scansTaken * c.multiplicity r ≤ 2 * (b.counts.get r).valid := by
  simp only [reliable, Bool.and_eq_true, decide_eq_true_eq, and_assoc]
  refine and_congr_right fun _ => and_congr ?_ ?_ <;> omega

theorem meanOf_isSome (c : Configuration) (b : Bank) (r : Role) : (meanOf c b r).isSome = reliable c b r := by
  unfold meanOf
  split <;> simp_all

theorem reliable_iff_mean {c : Configuration} {b : Bank} {r : Role} :
    reliable c b r = true ↔ ∃ m, meanOf c b r = some m := by
  rw [← meanOf_isSome, Option.isSome_iff_exists]

theorem meanOf_eq_some {c : Configuration} {b : Bank} {r : Role} {m : Nat} (h : meanOf c b r = some m) :
    m = ((b.counts.get r).sum + (b.counts.get r).valid / 2) / (b.counts.get r).valid := by
  unfold meanOf at h
  split at h
  · exact (Option.some.inj h).symm
  · cases h

/-- R32: the quotient of the sum plus half the count is the mean rounded to nearest, halves up. -/
theorem rounded_bounds (sum : Nat) {n : Nat} (pos : 0 < n) :
    2 * ((sum + n / 2) / n) * n ≤ 2 * sum + n ∧ 2 * sum < (2 * ((sum + n / 2) / n) + 1) * n := by
  have below : (sum + n / 2) / n * n ≤ sum + n / 2 := Nat.div_mul_le_self _ _
  have above : sum + n / 2 < ((sum + n / 2) / n + 1) * n := Nat.lt_mul_of_div_lt (Nat.lt_succ_self _) pos
  rw [add_mul, one_mul] at above
  rw [add_mul, one_mul, mul_assoc]
  omega

/-- Settles O17: the two halves rounded up, and the rounded quotient between its bounds. -/
theorem reliabilityAndMean : Obligations.ReliabilityAndMean := by
  refine fun c b r => ⟨reliable_iff, meanOf_isSome c b r, fun m mean pos => ?_⟩
  rw [meanOf_eq_some mean]
  obtain ⟨below, above⟩ := rounded_bounds (b.counts.get r).sum pos
  refine ⟨below, above, fun low high => ⟨?_, ?_⟩⟩
  · rw [Nat.le_div_iff_mul_le pos]
    omega
  · rw [← Nat.lt_succ_iff, Nat.div_lt_iff_lt_mul pos]
    omega

/-! ### The damper paths (R39, R42 to R44) -/

theorem fanProven_iff {b : Bank} : fanProven b = true ↔ b.fan = .proven := by simp [fanProven]

theorem temperature_sub (m n : Nat) : temperature m - temperature n = (m : Int) - n := by simp [temperature]

theorem outdoorFraction_of_mem {raw : Int} (low : -64 ≤ raw) (high : raw ≤ 1088) :
    outdoorFraction raw = some (max 0 (min 1024 raw)) := by
  have inside : ¬(raw < -64 ∨ 1088 < raw) := by omega
  simp [outdoorFraction, inside]

theorem outdoorFraction_of_not_mem {raw : Int} (h : ¬(-64 ≤ raw ∧ raw ≤ 1088)) : outdoorFraction raw = none := by
  have outside : raw < -64 ∨ 1088 < raw := by omega
  simp [outdoorFraction, outside]

/-- Path A with its four means: it is assessed on a proven fan, a wide enough spread and a plausible mix (R39, R43). -/
theorem pathA_of_means {c : Configuration} {b : Bank} {oat rat mat dmc : Nat} (hoat : meanOf c b .oat = some oat)
    (hrat : meanOf c b .rat = some rat) (hmat : meanOf c b .mat = some mat) (hdmc : meanOf c b .dmc = some dmc) :
    pathA c b =
      if b.fan = .proven ∧ c.params.minSpread ≤ ((oat : Int) - rat).natAbs
          ∧ -64 ≤ rawFraction ((mat : Int) - rat) ((oat : Int) - rat)
          ∧ rawFraction ((mat : Int) - rat) ((oat : Int) - rat) ≤ 1088 then
        if c.params.damperTol < (max 0 (min 1024 (rawFraction ((mat : Int) - rat) ((oat : Int) - rat)))
            - (expectedFraction c.params.oaMin dmc : Int)).natAbs then .flags else .clears
      else .blind := by
  simp only [pathA, hoat, hrat, hmat, hdmc, temperature_sub, Bool.and_eq_true, fanProven_iff, decide_eq_true_eq]
  by_cases ready : b.fan = .proven ∧ c.params.minSpread ≤ ((oat : Int) - rat).natAbs
  · rw [if_pos ready]
    by_cases mixed : -64 ≤ rawFraction ((mat : Int) - rat) ((oat : Int) - rat)
        ∧ rawFraction ((mat : Int) - rat) ((oat : Int) - rat) ≤ 1088
    · rw [outdoorFraction_of_mem mixed.1 mixed.2, if_pos ⟨ready.1, ready.2, mixed⟩]
    · rw [outdoorFraction_of_not_mem mixed, if_neg fun all => mixed all.2.2]
  · rw [if_neg ready, if_neg fun all => ready ⟨all.1, all.2.1⟩]

theorem means_of_pathA {c : Configuration} {b : Bank} (h : pathA c b ≠ .blind) :
    ∃ oat rat mat dmc, meanOf c b .oat = some oat ∧ meanOf c b .rat = some rat ∧ meanOf c b .mat = some mat
      ∧ meanOf c b .dmc = some dmc := by
  unfold pathA at h
  split at h
  · rename_i oat rat mat dmc hoat hrat hmat hdmc
    exact ⟨oat, rat, mat, dmc, hoat, hrat, hmat, hdmc⟩
  · exact absurd rfl h

theorem means_of_pathF {c : Configuration} {b : Bank} (h : pathF c b ≠ .blind) :
    ∃ dmf dmc, meanOf c b .dmf = some dmf ∧ meanOf c b .dmc = some dmc := by
  unfold pathF at h
  split at h
  · rename_i dmf dmc hdmf hdmc
    exact ⟨dmf, dmc, hdmf, hdmc⟩
  · exact absurd rfl h

theorem pathF_of_means {c : Configuration} {b : Bank} {dmf dmc : Nat} (hdmf : meanOf c b .dmf = some dmf)
    (hdmc : meanOf c b .dmc = some dmc) :
    pathF c b = if c.params.fbTol < ((dmf : Int) - dmc).natAbs then .flags else .clears := by
  simp only [pathF, hdmf, hdmc]

/-- The scaled command of R42 is rounded to nearest, and stays within what oa_min leaves. -/
theorem expectedFraction_bounds {oaMin dmc : Nat} (oa : oaMin ≤ 512) (high : dmc ≤ 4079) :
    expectedFraction oaMin dmc ≤ 1024 ∧ oaMin ≤ expectedFraction oaMin dmc
      ∧ (4095 * ((expectedFraction oaMin dmc : Int) - oaMin) - (1024 - (oaMin : Int)) * dmc).natAbs ≤ 2047 := by
  have scaled : (1024 - oaMin) * dmc ≤ (1024 - oaMin) * 4079 := Nat.mul_le_mul_left _ high
  have cast : (1024 - (oaMin : Int)) * dmc = (((1024 - oaMin) * dmc : Nat) : Int) := by
    rw [Nat.cast_mul, Nat.cast_sub (by omega)]
    rfl
  rw [cast]
  unfold expectedFraction
  omega

/-- Settles O21: path A by its four means, path F by its two, and the rounding of the expected fraction. -/
theorem damperPaths : Obligations.DamperPaths := by
  intro c b
  refine ⟨fun dmc oa _ high => expectedFraction_bounds oa high, ⟨fun sees => ?_, ?_⟩, fun flags => ?_, fun clears => ?_,
    ⟨fun flags => ?_, ?_⟩, fun clears => ?_, ?_⟩
  · obtain ⟨oat, rat, mat, dmc, hoat, hrat, hmat, hdmc⟩ := means_of_pathA sees
    refine ⟨oat, rat, mat, dmc, hoat, hrat, hmat, hdmc, ?_⟩
    by_contra blind
    exact sees (by rw [pathA_of_means hoat hrat hmat hdmc, if_neg blind])
  · rintro ⟨oat, rat, mat, dmc, hoat, hrat, hmat, hdmc, assessed⟩
    rw [pathA_of_means hoat hrat hmat hdmc, if_pos assessed]
    split <;> nofun
  · obtain ⟨oat, rat, mat, dmc, hoat, hrat, hmat, hdmc⟩ := means_of_pathA (by rw [flags]; nofun)
    refine ⟨oat, rat, mat, dmc, hoat, hrat, hmat, hdmc, ?_⟩
    by_contra within
    change ¬c.params.damperTol < (_ - (expectedFraction c.params.oaMin dmc : Int)).natAbs at within
    rw [pathA_of_means hoat hrat hmat hdmc, if_neg within] at flags
    split at flags <;> cases flags
  · obtain ⟨oat, rat, mat, dmc, hoat, hrat, hmat, hdmc⟩ := means_of_pathA (by rw [clears]; nofun)
    refine ⟨oat, rat, mat, dmc, hoat, hrat, hmat, hdmc, not_lt.mp fun beyond => ?_⟩
    change c.params.damperTol < (_ - (expectedFraction c.params.oaMin dmc : Int)).natAbs at beyond
    rw [pathA_of_means hoat hrat hmat hdmc, if_pos beyond] at clears
    split at clears <;> cases clears
  · obtain ⟨dmf, dmc, hdmf, hdmc⟩ := means_of_pathF (by rw [flags]; nofun)
    refine ⟨dmf, dmc, hdmf, hdmc, ?_⟩
    by_contra within
    rw [pathF_of_means hdmf hdmc, if_neg within] at flags
    cases flags
  · rintro ⟨dmf, dmc, hdmf, hdmc, beyond⟩
    rw [pathF_of_means hdmf hdmc, if_pos beyond]
  · obtain ⟨dmf, dmc, hdmf, hdmc⟩ := means_of_pathF (by rw [clears]; nofun)
    refine ⟨dmf, dmc, hdmf, hdmc, not_lt.mp fun beyond => ?_⟩
    rw [pathF_of_means hdmf hdmc, if_pos beyond] at clears
    cases clears
  · rintro ⟨dmf, dmc, hdmf, hdmc, within⟩
    rw [pathF_of_means hdmf hdmc, if_neg (not_lt.mpr within)]

/-! ### Valve leakage (R46, R47) -/

theorem valveClosed_iff {c : Configuration} {b : Bank} {valve : Role} :
    valveClosed c b valve = true ↔
      (c.mapped valve = true → ∃ m, meanOf c b valve = some m ∧ m ≤ c.params.closedBand) := by
  cases mapped : c.mapped valve <;> simp [valveClosed, mapped, Option.any_eq_true]

/-- The residual stands exactly in a period in which conditions 1 to 3 of R46 hold. -/
theorem leakResidual_eq_some_iff {c : Configuration} {b : Bank} {r : Int} :
    leakResidual c b = some r ↔ ∃ mat dat : Nat, meanOf c b .mat = some mat ∧ meanOf c b .dat = some dat
      ∧ b.fan = .proven ∧ valveClosed c b .hvc = true ∧ valveClosed c b .cvc = true
      ∧ r = (dat : Int) - mat - c.params.fanRise := by
  unfold leakResidual
  split
  · rename_i mat dat hmat hdat
    simp only [hmat, hdat, Option.some.injEq, exists_and_left, exists_eq_left', temperature_sub, Bool.and_eq_true,
      fanProven_iff, and_assoc]
    split
    · rename_i closed
      simp [closed, eq_comm]
    · rename_i open_
      simp only [reduceCtorEq, false_iff]
      exact fun ⟨fan, heat, cool, _⟩ => open_ ⟨fan, heat, cool⟩
  · rename_i missing
    simp only [reduceCtorEq, false_iff]
    rintro ⟨mat, dat, hmat, hdat, -⟩
    exact missing mat dat hmat hdat

theorem coolLeakVerdict_of_residual {c : Configuration} {b : Bank} {r : Int} (mapped : c.mapped .cvc = true)
    (h : leakResidual c b = some r) :
    coolLeakVerdict c b = if r < -(c.params.leakDt : Int) then .evidence 48 else .noEvidence := by
  simp only [coolLeakVerdict, mapped, h]

theorem heatLeakVerdict_of_residual {c : Configuration} {b : Bank} {r : Int} (mapped : c.mapped .hvc = true)
    (h : leakResidual c b = some r) :
    heatLeakVerdict c b = if r > (c.params.leakDt : Int) then .evidence 48 else .noEvidence := by
  simp only [heatLeakVerdict, mapped, h]

theorem coolLeakVerdict_assessed {c : Configuration} {b : Bank} :
    coolLeakVerdict c b ≠ .notAssessable ↔ (∃ r, leakResidual c b = some r) ∧ c.mapped .cvc = true := by
  cases mapped : c.mapped .cvc with
  | false => simp [coolLeakVerdict, mapped]
  | true =>
    cases h : leakResidual c b with
    | none => simp [coolLeakVerdict, mapped, h]
    | some r =>
      rw [coolLeakVerdict_of_residual mapped h]
      split <;> simp

theorem heatLeakVerdict_assessed {c : Configuration} {b : Bank} :
    heatLeakVerdict c b ≠ .notAssessable ↔ (∃ r, leakResidual c b = some r) ∧ c.mapped .hvc = true := by
  cases mapped : c.mapped .hvc with
  | false => simp [heatLeakVerdict, mapped]
  | true =>
    cases h : leakResidual c b with
    | none => simp [heatLeakVerdict, mapped, h]
    | some r =>
      rw [heatLeakVerdict_of_residual mapped h]
      split <;> simp

/-- Settles O22: the residual stands exactly in a judged period, and one residual is not on both sides. -/
theorem leakageOutcomes : Obligations.LeakageOutcomes := by
  intro c b judged
  have judged_iff : judged ↔ ∃ r, leakResidual c b = some r := by
    simp only [judged, leakResidual_eq_some_iff, reliable_iff_mean]
    constructor
    · rintro ⟨⟨mat, hmat⟩, ⟨dat, hdat⟩, fan, closed⟩
      exact ⟨_, mat, dat, hmat, hdat, fan, valveClosed_iff.mpr (closed .hvc (.inl rfl)),
        valveClosed_iff.mpr (closed .cvc (.inr rfl)), rfl⟩
    · rintro ⟨-, mat, dat, hmat, hdat, fan, heat, cool, rfl⟩
      refine ⟨⟨mat, hmat⟩, ⟨dat, hdat⟩, fan, ?_⟩
      rintro valve (rfl | rfl)
      · exact valveClosed_iff.mp heat
      · exact valveClosed_iff.mp cool
  refine ⟨by rw [judged_iff, coolLeakVerdict_assessed], by rw [judged_iff, heatLeakVerdict_assessed],
    fun mat dat assessed hmat hdat => ?_, fun both => ?_⟩
  · obtain ⟨r, residual⟩ := judged_iff.mp assessed
    obtain ⟨mat', dat', hmat', hdat', -, -, -, value⟩ := leakResidual_eq_some_iff.mp residual
    obtain rfl := Option.some.inj (hmat.symm.trans hmat')
    obtain rfl := Option.some.inj (hdat.symm.trans hdat')
    subst value
    exact ⟨fun mapped => coolLeakVerdict_of_residual mapped residual, fun mapped => heatLeakVerdict_of_residual mapped residual⟩
  · obtain ⟨cool, heat⟩ := both
    obtain ⟨⟨r, residual⟩, mappedCool⟩ := coolLeakVerdict_assessed.mp (by rw [cool]; nofun)
    obtain ⟨-, mappedHeat⟩ := heatLeakVerdict_assessed.mp (by rw [heat]; nofun)
    rw [coolLeakVerdict_of_residual mappedCool residual] at cool
    rw [heatLeakVerdict_of_residual mappedHeat residual] at heat
    have below : r < -(c.params.leakDt : Int) := by
      by_contra above
      simp [above] at cool
    have above : r > (c.params.leakDt : Int) := by
      by_contra below
      simp [below] at heat
    omega

/-! ### Simultaneous heating and cooling, hunting, effort, point faults (R48, R54 to R57, R59) -/

theorem effortValid_iff {c : Configuration} {b : Bank} :
    effortValid c b = true ↔ (c.mapped .hvc = true ∨ c.mapped .cvc = true) ∧
      ∀ valve, valve = Role.hvc ∨ valve = Role.cvc → c.mapped valve = true → reliable c b valve = true := by
  have usable : ∀ valve, valveUsable c b valve = true ↔ (c.mapped valve = true → reliable c b valve = true) := by
    intro valve
    cases mapped : c.mapped valve <;> simp [valveUsable, mapped]
  simp only [effortValid, Bool.and_eq_true, Bool.or_eq_true, usable, and_assoc, forall_eq_or_imp, forall_eq]

theorem simultVerdict_of_means {c : Configuration} {b : Bank} {changed : Bool} {h v : Nat}
    (heat : meanOf c b .hvc = some h) (cool : meanOf c b .cvc = some v) :
    simultVerdict c b changed =
      if b.fan = .proven ∧ changed = false then
        if c.params.openBand < h ∧ c.params.openBand < v then .evidence 64 else .noEvidence
      else .notAssessable := by
  simp only [simultVerdict, heat, cool, Bool.and_eq_true, fanProven_iff, Bool.not_eq_true', decide_eq_true_eq]

theorem means_of_simultVerdict {c : Configuration} {b : Bank} {changed : Bool}
    (h : simultVerdict c b changed ≠ .notAssessable) :
    ∃ heat cool, meanOf c b .hvc = some heat ∧ meanOf c b .cvc = some cool := by
  unfold simultVerdict at h
  split at h
  · rename_i heat cool hheat hcool
    exact ⟨heat, cool, hheat, hcool⟩
  · exact absurd rfl h

theorem huntingVerdict_eq (c : Configuration) (b : Bank) (changed : Bool) :
    huntingVerdict c b changed =
      if effortValid c b = true ∧ b.fan = .proven ∧ changed = false then
        if c.params.huntReversals ≤ b.reversals then .evidence 48 else .noEvidence
      else .notAssessable := by
  simp only [huntingVerdict, Bool.and_eq_true, fanProven_iff, Bool.not_eq_true', and_assoc]

theorem Role.ofNumber_number (r : Role) : Role.ofNumber r.number = some r := by cases r <;> rfl

theorem localVerdict_pointFault (c : Configuration) (b : Bank) (changed : Bool) (r : Role) :
    localVerdict c b changed ⟨.pointFault, r.number⟩ = pointVerdict c b r := by
  simp [localVerdict, Role.ofNumber_number]

/-- Settles O23: each outcome by the means and flags that it is formed from. -/
theorem valveAndPointOutcomes : Obligations.ValveAndPointOutcomes := by
  refine ⟨fun c b e => ⟨⟨fun assessed => ?_, ?_⟩, ⟨fun evidence => ?_, ?_⟩, ?_, ?_, effortValid_iff, rfl⟩,
    fun c b changed r => ?_⟩
  · obtain ⟨h, v, heat, cool⟩ := means_of_simultVerdict assessed
    refine ⟨reliable_iff_mean.mpr ⟨h, heat⟩, reliable_iff_mean.mpr ⟨v, cool⟩, ?_⟩
    by_contra loud
    exact assessed (by rw [simultVerdict_of_means heat cool, if_neg loud])
  · rintro ⟨heat, cool, quiet⟩
    obtain ⟨h, heat⟩ := reliable_iff_mean.mp heat
    obtain ⟨v, cool⟩ := reliable_iff_mean.mp cool
    rw [simultVerdict_of_means heat cool, if_pos quiet]
    split <;> nofun
  · obtain ⟨h, v, heat, cool⟩ := means_of_simultVerdict (by rw [evidence]; nofun)
    rw [simultVerdict_of_means heat cool] at evidence
    split at evidence
    · rename_i quiet
      refine ⟨quiet, h, v, heat, cool, ?_⟩
      by_contra shut
      rw [if_neg shut] at evidence
      cases evidence
    · cases evidence
  · rintro ⟨quiet, h, v, heat, cool, opened⟩
    rw [simultVerdict_of_means heat cool, if_pos quiet, if_pos opened]
  · refine Iff.trans ?_ ((and_congr_left' effortValid_iff).trans and_assoc)
    rw [huntingVerdict_eq]
    split
    · rename_i assessed
      refine iff_of_true ?_ assessed
      split <;> nofun
    · rename_i blind
      exact iff_of_false (fun assessed => assessed rfl) blind
  · refine Iff.trans ?_ ((and_congr_left' effortValid_iff).trans and_assoc)
    simp only [periodSummary, huntingVerdict_eq]
    split
    · rename_i assessed
      obtain ⟨valid, fan, unchanged⟩ := assessed
      simp only [valid, fan, unchanged, true_and]
      split
      · rename_i often
        exact iff_of_true rfl often
      · rename_i rarely
        exact iff_of_false nofun rarely
    · rename_i blind
      exact iff_of_false nofun fun ⟨valid, ⟨fan, unchanged⟩, _⟩ => blind ⟨valid, fan, unchanged⟩
  · simp only [localVerdict_pointFault, pointVerdict, Bool.and_eq_true, decide_eq_true_eq]

/-! ### The hunting tracker (R50 to R52) -/

theorem Tracker.effort_eq (c : Configuration) (t : Tracker) :
    t.effort c =
      if (c.mapped .hvc = true ∧ t.hvc = none) ∨ (c.mapped .cvc = true ∧ t.cvc = none) then none
      else some (((if c.mapped .hvc = true then t.hvc.getD 0 else 0 : Nat) : Int)
        - ((if c.mapped .cvc = true then t.cvc.getD 0 else 0 : Nat) : Int)) := by
  have code : ∀ (mapped : Bool) (collected : Option Nat), valveCode mapped collected =
      if mapped = true ∧ collected = none then none else some (if mapped = true then collected.getD 0 else 0) := by
    intro mapped collected
    cases mapped <;> cases collected <;> rfl
  unfold Tracker.effort
  rw [code, code]
  by_cases heat : c.mapped .hvc = true ∧ t.hvc = none
  · simp [heat]
  · by_cases cool : c.mapped .cvc = true ∧ t.cvc = none
    · simp [heat, cool]
    · simp [heat, cool]

theorem Tracker.scanEnd_of_skipped {c : Configuration} {t : Tracker} (h : t.effort c = none) :
    t.scanEnd c = ({ t with hvc := none, cvc := none }, false) := by
  simp [Tracker.scanEnd, h]

theorem Tracker.scanEnd_of_effort {c : Configuration} {t : Tracker} {e : Int} (h : t.effort c = some e) :
    t.scanEnd c = ({ (t.apply c.params.huntDeadband e).1 with hvc := none, cvc := none },
      (t.apply c.params.huntDeadband e).2) := by
  simp [Tracker.scanEnd, h]

/-- Settles O15: a scan end by its effort, and the effort against the extreme for each direction. -/
theorem trackerTurns : Obligations.TrackerTurns := by
  refine ⟨fun c t => ⟨fun skipped => ?_, fun complete => ?_⟩, fun c t e effort => ?_⟩
  · have none_ : t.effort c = none := by rw [t.effort_eq c, if_pos skipped]
    exact ⟨none_, Tracker.scanEnd_of_skipped none_⟩
  · rw [t.effort_eq c, if_neg complete]
  · rw [Tracker.scanEnd_of_effort effort]
    refine ⟨rfl, rfl, fun fresh => by simp [Tracker.apply, fresh], fun x extreme => ⟨?_, ?_, ?_⟩⟩
    · intro still
      simp only [Tracker.apply, extreme, still]
      refine ⟨by split_ifs <;> rfl, fun up => by simp [up], fun down => ?_, fun low high => ?_⟩
      · rw [if_neg (by omega), if_pos down]
        exact ⟨rfl, rfl⟩
      · rw [if_neg (by omega), if_neg (by omega)]
        exact ⟨still, extreme⟩
    · intro rising
      simp only [Tracker.apply, extreme, rising]
      refine ⟨fun up => by simp [up], fun turned => ?_, fun low high => ?_⟩
      · rw [if_neg (by omega), if_pos turned]
        exact ⟨rfl, rfl, rfl⟩
      · rw [if_neg (by omega), if_neg (by omega)]
        exact ⟨rising, extreme, rfl⟩
    · intro falling
      simp only [Tracker.apply, extreme, falling]
      refine ⟨fun down => by simp [down], fun turned => ?_, fun low high => ?_⟩
      · rw [if_neg (by omega), if_pos turned]
        exact ⟨rfl, rfl, rfl⟩
      · rw [if_neg (by omega), if_neg (by omega)]
        exact ⟨falling, extreme, rfl⟩

/-! ### One entry at an evaluation (R101 to R103, R108) -/

theorem Entry.reservationLost_iff {epoch : Byte} {e : Entry} :
    e.reservationLost epoch = true ↔ e.age ≤ 1 ∧ (e.reservedOwn ≠ epoch ∨ e.reservedPeer ≠ e.lastDigest.epoch) := by
  simp [Entry.reservationLost, freshness_eq_fresh_iff]

/-- The pair outcome reads the age and the last digest of an entry alone. -/
theorem pairVerdict_congr {fight : Nat} {own : Summary} {held : Bool} {e f : Entry} (age : f.age = e.age)
    (digest : f.lastDigest = e.lastDigest) : pairVerdict fight own held f = pairVerdict fight own held e := by
  simp only [pairVerdict, age, digest]

section
variable (fight : Nat) (own : Summary) {e : Entry}

theorem Entry.evaluate_of_kept (h : e.reservationLost own.epoch = false) :
    e.evaluate fight own = { e with pair := e.pair.update .crossFight (pairVerdict fight own false e) } := by
  simp [Entry.evaluate, Entry.checkReservation, h]

theorem Entry.evaluate_of_held (h : e.reservationLost own.epoch = true)
    (confirmed : e.pair.state.confirmedOrRecovering = true) :
    e.evaluate fight own =
      { e.refresh own.epoch with pair := e.pair.update .crossFight .notAssessable } := by
  have blind : pairVerdict fight own true (e.refresh own.epoch) = .notAssessable :=
    pairVerdict_of_not_assessable fun ⟨_, _, _, _, _, free⟩ => by cases free
  simp only [Entry.evaluate, Entry.checkReservation, h, confirmed, Bool.and_true, if_true, blind]
  rfl

theorem Entry.evaluate_of_reset (h : e.reservationLost own.epoch = true)
    (idle : e.pair.state.confirmedOrRecovering = false) :
    e.evaluate fight own =
      { e.refresh own.epoch with
        pair := Scored.update .crossFight (pairVerdict fight own false e) ⟨0, .clear, e.pair.last⟩ } := by
  simp only [Entry.evaluate, Entry.checkReservation, h, idle, Bool.and_false, if_true, Bool.false_eq_true, if_false]
  rw [pairVerdict_congr (e := e) rfl rfl]
  rfl

end

/-- A candidate just set to CLEAR at 0 is brought to at most 80 by one pair outcome. -/
theorem update_from_zero {fight : Nat} {own : Summary} {held : Bool} {e : Entry} (last : Option Verdict) :
    (Scored.update .crossFight (pairVerdict fight own held e) ⟨0, .clear, last⟩).state = .clear
      ∧ (Scored.update .crossFight (pairVerdict fight own held e) ⟨0, .clear, last⟩).score ≤ 80 := by
  have small : nextScore .crossFight (pairVerdict fight own held e) 0 ≤ 80 := by
    cases verdict : pairVerdict fight own held e with
    | evidence g =>
      have gain := pairVerdict_gain verdict
      rw [nextScore_evidence]
      split at gain <;> omega
    | noEvidence => exact Nat.zero_le _
    | notAssessable => exact Nat.zero_le _
  refine ⟨?_, small⟩
  exact (nextState_clear _).trans (if_neg (Nat.not_le_of_lt (Nat.lt_of_le_of_lt small (by decide))))

/-- Settles O28: an entry whose reservation is kept, held over, or reset. -/
theorem reservationCheck : Obligations.ReservationCheck := by
  intro fight own e lost f
  have lost_iff : lost ↔ e.reservationLost own.epoch = true := Entry.reservationLost_iff.symm
  have same : f.station = e.station ∧ f.matchSet = e.matchSet ∧ f.lastDigest = e.lastDigest ∧ f.age = e.age
      ∧ f.ownership = e.ownership ∧ f.claimAttempts = e.claimAttempts := by
    simp only [f, Entry.evaluate, Entry.checkReservation, Entry.refresh]
    split_ifs <;> exact ⟨rfl, rfl, rfl, rfl, rfl, rfl⟩
  refine ⟨fun kept => ?_, fun gone => ?_, fun gone confirmed => ?_, fun gone idle => ?_, same⟩
  · rw [lost_iff, Bool.not_eq_true] at kept
    rw [show f = _ from Entry.evaluate_of_kept fight own kept]
    exact ⟨rfl, rfl, rfl⟩
  · rw [lost_iff] at gone
    cases confirmed : e.pair.state.confirmedOrRecovering with
    | true =>
      rw [show f = _ from Entry.evaluate_of_held fight own gone confirmed]
      exact ⟨rfl, rfl⟩
    | false =>
      rw [show f = _ from Entry.evaluate_of_reset fight own gone confirmed]
      exact ⟨rfl, rfl⟩
  · rw [show f = _ from Entry.evaluate_of_held fight own (lost_iff.mp gone) confirmed]
  · rw [show f = _ from Entry.evaluate_of_reset fight own (lost_iff.mp gone) idle]
    exact ⟨rfl, update_from_zero e.pair.last⟩

/-! ### The match set, and the entry a newcomer may evict (R79, R90) -/

theorem mem_matchSet {c : Configuration} {zones : List Nat} {k : Nat} :
    k ∈ c.matchSet zones ↔ 1 ≤ k ∧ k ≤ 4 ∧ ∃ z, c.zones.getD (k - 1) none = some z ∧ ∃ p ∈ zones, z.accepts p = true := by
  have position : k ∈ [1, 2, 3, 4] ↔ 1 ≤ k ∧ k ≤ 4 := by
    simp only [List.mem_cons, List.not_mem_nil, or_false]
    omega
  rw [Configuration.matchSet, List.mem_filter, position, and_assoc]
  simp only [Option.any_eq_true, List.any_eq_true]

theorem freshness_eq_lost_iff {age : Nat} : freshness age = .lost ↔ 4 ≤ age := by
  unfold freshness
  split_ifs <;> simp <;> omega

/-- The choice over the entries examined so far: none of them is LOST, or the earliest of the oldest ones. -/
def Evicts (l : List Entry) : Option Entry → Prop
  | none => ∀ e ∈ l, e.age ≤ 3
  | some e => 4 ≤ e.age ∧ ∃ before after, l = before ++ e :: after
      ∧ (∀ f ∈ before, f.age < e.age) ∧ ∀ f ∈ after, f.age ≤ e.age

theorem evictChoice_evicts {l : List Entry} {best : Option Entry} (h : Evicts l best) (x : Entry) :
    Evicts (l ++ [x]) (evictChoice best x) := by
  unfold evictChoice
  split
  · rename_i lost
    have old : 4 ≤ x.age := freshness_eq_lost_iff.mp (by simpa using lost)
    cases best with
    | none => exact ⟨old, l, [], rfl, fun f mem => Nat.lt_of_le_of_lt (h f mem) old, by simp⟩
    | some b =>
      obtain ⟨lostBest, before, after, rfl, younger, notOlder⟩ := h
      dsimp only
      split
      · rename_i older
        refine ⟨old, _, [], rfl, fun f mem => ?_, by simp⟩
        rcases List.mem_append.mp mem with mem | mem
        · exact (younger f mem).trans older
        · rcases List.mem_cons.mp mem with rfl | mem
          · exact older
          · exact (notOlder f mem).trans_lt older
      · rename_i notYounger
        refine ⟨lostBest, before, after ++ [x], by simp, younger, fun f mem => ?_⟩
        rcases List.mem_append.mp mem with mem | mem
        · exact notOlder f mem
        · exact List.mem_singleton.mp mem ▸ not_lt.mp notYounger
  · rename_i present
    have young : x.age ≤ 3 := by
      by_contra old
      exact present (by simp [freshness_eq_lost_iff.mpr (by omega : 4 ≤ x.age)])
    cases best with
    | none => exact fun f mem => (List.mem_append.mp mem).elim (h f) fun mem => List.mem_singleton.mp mem ▸ young
    | some b =>
      obtain ⟨lostBest, before, after, rfl, younger, notOlder⟩ := h
      refine ⟨lostBest, before, after ++ [x], by simp, younger, fun f mem => ?_⟩
      rcases List.mem_append.mp mem with mem | mem
      · exact notOlder f mem
      · obtain rfl := List.mem_singleton.mp mem
        omega

theorem evictable_evicts (t : NeighbourTable) : Evicts t.entries t.evictable := by
  rw [NeighbourTable.evictable_eq]
  induction t.entries using List.reverseRecOn with
  | nil => simp [Evicts]
  | append_singleton l x ih =>
    rw [List.foldl_append]
    exact evictChoice_evicts ih x

/-- Settles O31: the match set position by position, and the choice of the fold over the entries. -/
theorem matchSetAndEviction : Obligations.MatchSetAndEviction := by
  refine ⟨fun c zones k => mem_matchSet, fun t => ?_, fun t e chosen => ?_⟩
  · have evicts := evictable_evicts t
    constructor
    · intro none_
      rwa [none_] at evicts
    · intro young
      cases chosen : t.evictable with
      | none => rfl
      | some e =>
        rw [chosen] at evicts
        exact absurd (young e (evictable_mem chosen)) (by have := evicts.1; omega)
  · have evicts := evictable_evicts t
    rwa [chosen] at evicts

end Sys2Proof.Machine
end

/-! Telegrams heard (R155), and start-up and restarts (chapter 10): the state before the first command (O3), power-on and
the RESET line (O4), the image read (O5), the restart requests (O8, O9). -/

section
namespace Sys2Proof.Machine

/-! ### A telegram heard -/

section
variable {kind : Nat} {chars : List Byte} {handle : Telegram → State → State} {s : State} {tel : Telegram}

/-- A damaged telegram draws REPEAT where its destination byte reads as the own number, and nothing else (R155). -/
theorem receive_of_damaged (whole : framed chars = true) (damaged : checkPasses chars = false) :
    s.receive kind chars handle =
      s.modLine fun l => { l.heard with mark := if byteAt chars 3 = s.own then some .repeatMark else none } := by
  have destination : (readTelegram chars).destination = byteAt chars 3 := rfl
  simp only [State.receive, whole, damaged, destination, Bool.not_true, Bool.not_false, Bool.false_eq_true, if_false,
    if_true, State.modLine_own, beq_iff_eq]
  split <;> rfl

/-- An undamaged telegram goes to the handler of its kind where it concerns this station. -/
theorem receive_of_carries (carries : Carries chars tel) :
    s.receive kind chars handle =
      if tel.kind = kind ∧ concernsStation s.own tel = true then handle tel (s.modLine Line.heard)
      else s.modLine Line.heard := by
  obtain ⟨whole, checked, rfl⟩ := carries
  simp only [State.receive, whole, checked, Bool.not_true, Bool.false_eq_true, if_false, State.modLine_own,
    Bool.and_eq_true, beq_iff_eq]

theorem receive_of_handled (carries : Carries chars tel) (same : tel.kind = kind)
    (concerns : concernsStation s.own tel = true) :
    s.receive kind chars handle = handle tel (s.modLine Line.heard) := by
  rw [receive_of_carries carries, if_pos ⟨same, concerns⟩]

theorem receive_of_ignored (carries : Carries chars tel)
    (ignored : ¬(tel.kind = kind ∧ concernsStation s.own tel = true)) :
    s.receive kind chars handle = s.modLine Line.heard := by
  rw [receive_of_carries carries, if_neg ignored]

end

theorem isTerminal_iff {n : Nat} : isTerminal n = true ↔ 60 ≤ n ∧ n ≤ 62 := by simp [isTerminal]

/-- The rows of R155 that a telegram has to pass to be handled. -/
theorem concernsStation_iff {own : Nat} {t : Telegram} :
    concernsStation own t = true ↔
      bodyLengthFits t.kind t.body = true ∧ valueFits t.kind t.body = true
        ∧ (t.destination = own ∨ t.destination = 63)
        ∧ ¬((t.kind = 4 ∨ t.kind = 6 ∨ t.kind = 7) ∧ (¬(60 ≤ t.source ∧ t.source ≤ 62) ∨ t.destination = 63))
        ∧ ¬(t.kind = 2 ∧ t.destination = 63) := by
  simp only [concernsStation, Bool.and_eq_true, Bool.or_eq_true, Bool.not_eq_true', beq_iff_eq, ← isTerminal_iff,
    ← Bool.not_eq_true, and_assoc, or_assoc]

/-- A telegram to the own number, which is a station's, concerns this station when its form fits and, where it comes
from a service terminal only, it does. -/
theorem concernsStation_of_own {own : Nat} {t : Telegram} (numbered : 1 ≤ own ∧ own ≤ 59) (to_own : t.destination = own)
    (length : bodyLengthFits t.kind t.body = true) (value : valueFits t.kind t.body = true)
    (source : t.kind = 4 ∨ t.kind = 6 ∨ t.kind = 7 → 60 ≤ t.source ∧ t.source ≤ 62) :
    concernsStation own t = true := by
  have mine : t.destination ≠ 63 := by omega
  exact concernsStation_iff.mpr ⟨length, value, .inl to_own,
    fun ⟨kind, away⟩ => away.elim (fun h => h (source kind)) mine, fun ⟨_, h⟩ => mine h⟩

/-! ### Entering STARTING -/

/-- The strap reading is a station's number (R173). -/
abbrev StrapsValid (straps : BitVec 6) : Prop := 1 ≤ straps.toNat ∧ straps.toNat ≤ 59

/-- STARTING entered and the strap read: the loader that they leave over cleared blocks (R172, R173). -/
theorem enterStarting_eq (cause : RestartCause) (straps : BitVec 6) (s : State) :
    s.enterStarting cause straps = s.clearBlocks.modLoader fun l =>
      { l with
        station := if StrapsValid straps then .starting else .halted
        halt := if StrapsValid straps then .none else .strapInvalid
        number := if StrapsValid straps then some straps.toNat else none
        cause := cause, config := none, version := 0 } := by
  have valid_iff : strapValid (strapNumber straps) = true ↔ StrapsValid straps := by
    change (decide (1 ≤ straps.toNat) && decide (straps.toNat ≤ 59)) = true ↔ _
    simp
  unfold State.enterStarting
  by_cases valid : StrapsValid straps
  · simp only [valid_iff.mpr valid, if_pos valid, if_true]
    rfl
  · simp only [valid_iff, if_neg valid]
    rfl

theorem clearBlocks_cleared (f : Loader → Loader) (m : Option Mark) (s : State) :
    BlocksCleared ((s.clearBlocks.modLoader f).modLine fun l => { l with mark := m }).driveLines where
  acq := rfl
  timers := rfl
  eval := rfl
  locals := rfl
  table := rfl
  tracking := rfl
  idle := rfl
  queue := rfl
  pauses := rfl
  window := rfl
  backoff := rfl
  restartPending := rfl
  received := rfl
  held := rfl
  transmission := rfl
  findings := rfl
  flags := rfl
  alertA := Bool.and_false _
  alertB := Bool.and_false _

/-- STARTING is entered from a part with a supply and a released RESET line, whatever mark the window then bears. -/
theorem enterStarting_enters {s u : State} (cause : RestartCause) (straps : BitVec 6) (m : Option Mark)
    (supply : u.loader.supply = true) (released : u.loader.resetAsserted = false) (draws : u.line.draws = s.line.draws)
    (pending : u.pending = s.pending) :
    EntersStarting cause straps s ((u.enterStarting cause straps).modLine fun l => { l with mark := m }).driveLines := by
  rw [enterStarting_eq]
  refine ⟨clearBlocks_cleared _ m u, supply, released, rfl, rfl, rfl, ?_, draws, pending⟩
  have supplied : u.clearBlocks.loader.supply = true := supply
  have free : u.clearBlocks.loader.resetAsserted = false := released
  unfold StrapsRead
  by_cases valid : StrapsValid straps
  · simp only [if_pos valid]
    simp [State.driveLines, State.faultLevel, State.linesFollow, State.running, State.halted]
  · simp only [if_neg valid]
    simp [State.driveLines, State.faultLevel, State.linesFollow, State.halted, State.stopped, supplied, free]

theorem enterStarting_enters_unmarked {s u : State} (cause : RestartCause) (straps : BitVec 6)
    (supply : u.loader.supply = true) (released : u.loader.resetAsserted = false) (draws : u.line.draws = s.line.draws)
    (pending : u.pending = s.pending) : EntersStarting cause straps s (u.enterStarting cause straps).driveLines := by
  have unmarked : (u.enterStarting cause straps).modLine (fun l => { l with mark := none })
      = u.enterStarting cause straps := by
    rw [enterStarting_eq]
    rfl
  have entered := enterStarting_enters cause straps none supply released draws pending
  rwa [unmarked] at entered

/-- Settles O3: no candidate, record or telegram of the reset state can break a law. -/
theorem resetKeepsTheLaws : Obligations.ResetKeepsTheLaws := by
  have records := cleared_records (t := State.reset) rfl rfl rfl
  exact ⟨⟨localsCleared_banded, by simp [State.reset, NeighbourTable.restart]⟩, by decide, by decide, by decide, by decide,
    State.listBounded_iff.mpr ⟨records.listed, records.law⟩,
    by decide, by decide, by decide, by decide, by simp [State.reset, Line.restart], by decide, by decide⟩

theorem clearBlocks_cleared_unmarked (f : Loader → Loader) (s : State) :
    BlocksCleared (s.clearBlocks.modLoader f).driveLines := clearBlocks_cleared f none s

/-- A part that is held drives no output line, and no block of it runs (R172). -/
theorem held_of_stopped {s : State} (h : s.stopped = true) :
    s.driveLines.report.fault = false ∧ s.running = false ∧ s.lineRuns = false := by
  simp [State.driveLines, State.faultLevel, State.linesFollow, State.lineRuns, State.running, State.halted, h]

/-- Settles O4: the part held by its RESET line drives no output line, and what enters STARTING does so over cleared
blocks. -/
theorem powerAndResetLine : Obligations.PowerAndResetLine := by
  refine ⟨fun straps s => ?_, fun s => ?_, fun straps s => ?_⟩
  · refine ⟨_, rfl, fun released => ?_, fun asserted => ?_⟩
    · rw [if_neg (by simp [released])]
      exact enterStarting_enters_unmarked .power straps rfl released rfl rfl
    · rw [if_pos asserted]
      have stopped : State.stopped (s.clearBlocks.modLoader fun l =>
          { l with supply := true, station := .starting, halt := .none, cause := .power, number := none, config := none
                   version := 0 }) = true := by
        rw [State.stopped, Bool.or_eq_true]
        exact .inr asserted
      exact ⟨clearBlocks_cleared_unmarked _ s, stopped, asserted, rfl, (held_of_stopped stopped).1, rfl⟩
  · have stopped : State.stopped (s.clearBlocks.modLoader fun l =>
        { l with resetAsserted := true, station := .starting }) = true := by simp [State.stopped]
    obtain ⟨fault, running, lineRuns⟩ := held_of_stopped stopped
    exact ⟨_, rfl, clearBlocks_cleared_unmarked _ s, fault, rfl, stopped, running, lineRuns, rfl, rfl⟩
  · cases asserted : s.loader.resetAsserted with
    | false =>
      refine ⟨s, ?_, nofun, nofun, fun _ => rfl⟩
      simp [exec, execResetLineReleased, asserted]
    | true =>
      have answer : exec (.resetLineReleased straps) s = finish (if s.loader.supply = true then
          (s.modLoader fun l => { l with resetAsserted := false }).enterStarting .resetLine straps
        else s.modLoader fun l => { l with resetAsserted := false }) := if_pos asserted
      refine ⟨_, answer, fun ⟨_, supply⟩ => ?_, fun ⟨_, none_⟩ => ?_, nofun⟩
      · rw [if_pos supply]
        exact enterStarting_enters_unmarked .resetLine straps supply rfl rfl rfl
      · rw [if_neg (by simp [none_])]
        exact ⟨⟨⟨rfl, rfl⟩, rfl, rfl, rfl, rfl, rfl, rfl, rfl⟩, rfl⟩

/-! ### The image read -/

theorem halted_of_halt {s : State} {cause : HaltCause} (h : s.stopped = false) : (s.halt cause).halted = true := by
  have free : (s.halt cause).stopped = false := h
  simp only [State.halted, free]
  rfl

theorem startingUp_not_stopped {s : State} (h : s.startingUp = true) : s.stopped = false := by
  simp only [State.startingUp, Bool.and_eq_true, Bool.not_eq_true'] at h
  exact h.1

/-- A station halted: only its loader has changed, and FAULT is asserted (R168, R179). -/
theorem halt_only {s u : State} {cause : HaltCause} (only : OnlyLoader s u) (h : u.stopped = false) :
    OnlyLoader s (u.halt cause).driveLines ∧ (u.halt cause).driveLines.halted = true
      ∧ (u.halt cause).driveLines.report.fault = true := by
  have halted := halted_of_halt (cause := cause) h
  refine ⟨⟨⟨only.findings, only.flags⟩, only.acq, only.timers, only.eval, only.locals, only.table, only.line,
    only.pending⟩, halted, ?_⟩
  simp [State.driveLines, State.faultLevel, State.linesFollow, halted]

theorem OnlyLoader.refl (s : State) : OnlyLoader s s := ⟨⟨rfl, rfl⟩, rfl, rfl, rfl, rfl, rfl, rfl, rfl⟩

theorem candidateActive_pointFault (c : Configuration) (r : Role) :
    candidateActive c ⟨.pointFault, r.number⟩ = c.mapped r := by
  simp [candidateActive, Role.ofNumber_number]

/-- Settles O5: the three tests of an image in their order, RUNNING entered, and the activity table. -/
theorem imageRead : Obligations.ImageRead := by
  refine ⟨fun image s starting whole refused => ?_, fun image s starting whole sum version list => ?_, fun c => ?_,
    fun s starting => ?_⟩
  · have free := startingUp_not_stopped starting
    have answer : exec (.imageReadComplete image) s = _ := if_pos (by simp [starting, whole])
    rw [answer]
    by_cases sum : imageSum image % 65536 = 0
    · by_cases version : byteAt image 1 = 3
      · have list : (loadConfiguration image).scanList = [] := by
          rcases refused with bad | other | list
          · exact absurd sum bad
          · exact absurd version other
          · exact list
        have loaded : OnlyLoader s (s.modLoader fun l => { l with version := 3 }) :=
          ⟨⟨rfl, rfl⟩, rfl, rfl, rfl, rfl, rfl, rfl, rfl⟩
        obtain ⟨only, halted, fault⟩ := halt_only (cause := .scanListEmpty) loaded free
        refine ⟨_, ?_, only, halted, fault, ?_⟩
        · simp [imageCheckPasses, sum, version, list, finish]
        · simp [sum, version, State.driveLines, State.halt]
      · obtain ⟨only, halted, fault⟩ := halt_only (cause := .versionUnknown) (.refl s) free
        refine ⟨_, ?_, only, halted, fault, ?_⟩
        · simp [imageCheckPasses, sum, version, finish]
        · simp [sum, version, State.driveLines, State.halt]
    · obtain ⟨only, halted, fault⟩ := halt_only (cause := .checkFailed) (.refl s) free
      refine ⟨_, ?_, only, halted, fault, ?_⟩
      · simp [imageCheckPasses, sum, finish]
      · simp [sum, State.driveLines, State.halt]
  · have free := startingUp_not_stopped starting
    have answer : exec (.imageReadComplete image) s = finish
        (s.modLoader fun l => { l with config := some (loadConfiguration image), version := 3 }).enterRunning := by
      refine (if_pos (by simp [starting, whole])).trans ?_
      simp [imageCheckPasses, sum, version, list]
    refine ⟨_, answer, ?_, rfl, rfl, rfl, rfl, rfl, rfl, rfl, ⟨rfl, rfl⟩, rfl⟩
    rw [State.running, Bool.and_eq_true]
    exact ⟨by rw [Bool.not_eq_true']; exact free, rfl⟩
  · refine ⟨?_, ?_, ?_, ?_, ?_, fun r => by rw [candidateActive_pointFault]⟩ <;> simp [candidateActive, and_assoc]
  · obtain ⟨only, halted, fault⟩ := halt_only (cause := .memorySilent) (.refl s) (startingUp_not_stopped starting)
    exact ⟨_, if_pos starting, only, halted, fault, rfl⟩

/-! ### Restart requests -/

section
variable {s : State} {chars : List Byte} {straps : BitVec 6} {source : Nat}

/-- A RESTART of a service terminal concerns the station (R149, R155). -/
theorem concernsStation_restart {value : Byte} (numbered : s.numbered) (low : 60 ≤ source) (high : source ≤ 62)
    (fits : value = 1#8 ∨ value = 2#8) :
    concernsStation s.own { kind := 7, source := source, destination := s.own, body := [value] } = true := by
  refine concernsStation_of_own numbered rfl rfl ?_ fun _ => ⟨low, high⟩
  rcases fits with rfl | rfl <;> rfl

theorem execRestartCold_eq (hears : s.listening = true) (numbered : s.numbered) (idle : s.evaluating = false)
    (low : 60 ≤ source) (high : source ≤ 62)
    (carries : Carries chars { kind := 7, source := source, destination := s.own, body := [2#8] }) :
    exec (.restartCold chars straps) s =
      finish (((s.modLine Line.heard).enterStarting .coldRequest straps).driveMark .concur) := by
  have evaluating : (s.modLine Line.heard).evaluating = false := idle
  refine (if_pos hears).trans (congrArg finish ?_)
  rw [receive_of_handled carries rfl (concernsStation_restart numbered low high (.inr rfl))]
  simp only [State.acceptRestart, evaluating]
  rfl

theorem execRestartWarm_eq (hears : s.listening = true) (numbered : s.numbered) (idle : s.evaluating = false)
    (low : 60 ≤ source) (high : source ≤ 62)
    (carries : Carries chars { kind := 7, source := source, destination := s.own, body := [1#8] }) :
    exec (.restartWarm chars straps) s =
      finish ((if s.running then (s.modLine Line.heard).warmRestart
        else (s.modLine Line.heard).enterStarting .warmRequest straps).driveMark .concur) := by
  have evaluating : (s.modLine Line.heard).evaluating = false := idle
  refine (if_pos hears).trans (congrArg finish ?_)
  rw [receive_of_handled carries rfl (concernsStation_restart numbered low high (.inl rfl))]
  simp only [State.acceptRestart, evaluating]
  rfl

end

theorem listening_loader {s : State} (h : s.listening = true) :
    s.loader.supply = true ∧ s.loader.resetAsserted = false := by
  have runs : s.lineRuns = true := by
    simp only [State.listening, Bool.and_eq_true] at h
    exact h.1.1
  have free : s.stopped = false := by
    cases stopped : s.stopped with
    | false => rfl
    | true => simp [State.lineRuns, State.running, State.halted, stopped] at runs
  simpa [State.stopped] using free

/-- Settles O8: both requests enter STARTING, the CONCUR kept in the mark. -/
theorem restartEntersStarting : Obligations.RestartEntersStarting := by
  refine ⟨fun chars straps source s hears numbered idle low high carries => ?_,
    fun chars straps source s hears halted numbered idle low high carries => ?_⟩
  · obtain ⟨supply, released⟩ := listening_loader hears
    exact ⟨_, execRestartCold_eq hears numbered idle low high carries,
      enterStarting_enters .coldRequest straps _ supply released rfl rfl, rfl⟩
  · obtain ⟨supply, released⟩ := listening_loader hears
    have still : s.running = false := by
      simp only [State.halted, Bool.and_eq_true, beq_iff_eq] at halted
      simp [State.running, halted.2]
    refine ⟨_, execRestartWarm_eq hears numbered idle low high carries, ?_, ?_⟩
    · rw [if_neg (by simp [still])]
      exact enterStarting_enters .warmRequest straps _ supply released rfl rfl
    · rfl

/-! ### The records at a warm restart -/

/-- A change of the record of one key, record by record (R166). -/
theorem changeRecord_eq_filterMap {k : Key} {g : Finding → Finding} (key : ∀ r, (g r).key = r.key) (l : List Finding) :
    changeRecord k g l = l.filterMap fun r => if r.key = k then if (g r).done then none else some (g r) else some r := by
  rw [changeRecord, ← List.filterMap_eq_filter, List.filterMap_map]
  refine List.filterMap_congr fun r _ => ?_
  by_cases same : r.key = k
  · cases done : (g r).done <;> simp [same, key, done, Option.guard]
  · simp [same, Option.guard]

/-- What the end of some pair candidates makes of one record (R73, R162, R166). -/
def Finding.ended (es : List Entry) (f : Finding) : Option Finding :=
  if ∃ e ∈ es, e.pair.state.confirmedOrRecovering = true ∧ f.key = pairKey e.station then
    if f.withdrawn.done then none else some f.withdrawn
  else some f

/-- The candidates of some entries ended: their records withdrawn, each of them active before. -/
theorem endAll_findings (es : List Entry) {s : State} (distinct : (es.map Entry.station).Nodup)
    (active : ∀ e ∈ es, e.pair.state.confirmedOrRecovering = true → ∀ f ∈ s.report.findings,
      f.key = pairKey e.station → f.status.isActive = true) :
    (es.foldl (fun s e => s.endCandidate e) s).report.findings = s.report.findings.filterMap (Finding.ended es) := by
  induction es generalizing s with
  | nil =>
    have kept : Finding.ended [] = some := by
      funext f
      simp [Finding.ended]
    rw [kept, List.filterMap_some]
    rfl
  | cons e es ih =>
    rw [List.map_cons, List.nodup_cons] at distinct
    obtain ⟨fresh, distinct⟩ := distinct
    have first : (s.endCandidate e).report.findings = s.report.findings.filterMap (Finding.ended [e]) := by
      rw [endCandidate_report]
      split
      · rename_i confirmed
        rw [changeRecord_eq_filterMap fun r => by split <;> rfl]
        refine List.filterMap_congr fun f mem => ?_
        by_cases same : f.key = pairKey e.station
        · simp [Finding.ended, same, confirmed, active e (List.mem_cons_self ..) confirmed f mem same]
        · simp [Finding.ended, same]
      · rename_i idle
        have kept : Finding.ended [e] = some := by
          funext f
          simp [Finding.ended, idle]
        rw [kept, List.filterMap_some]
    have kept : ∀ f g, Finding.ended [e] f = some g → g.key = f.key := by
      intro f g
      simp only [Finding.ended]
      split_ifs <;> rintro ⟨⟩ <;> rfl
    rw [List.foldl_cons, ih distinct, first, List.filterMap_filterMap]
    · refine List.filterMap_congr fun f mem => ?_
      by_cases here : e.pair.state.confirmedOrRecovering = true ∧ f.key = pairKey e.station
      · have later : ∀ g : Finding, g.key = f.key → Finding.ended es g = some g := fun g key => by
          refine if_neg ?_
          rintro ⟨e', mem', -, same⟩
          have station : e'.station = e.station := by
            have keys : pairKey e'.station = pairKey e.station := (same.symm.trans key).trans here.2
            simpa [pairKey] using keys
          exact fresh (station ▸ List.mem_map_of_mem mem')
        simp only [Finding.ended, List.mem_cons, List.not_mem_nil, or_false, exists_eq_left, exists_eq_or_imp, here,
          and_self, true_or, if_true]
        split
        · rfl
        · exact later f.withdrawn rfl
      · simp [Finding.ended, here]
    · intro e' mem' confirmed g gmem key
      rw [first] at gmem
      obtain ⟨f, fmem, ended⟩ := List.mem_filterMap.mp gmem
      have other : ¬(e.pair.state.confirmedOrRecovering = true ∧ f.key = pairKey e.station) := by
        rintro ⟨-, same⟩
        have keys : pairKey e'.station = pairKey e.station := (key.symm.trans (kept f g ended)).trans same
        have station : e'.station = e.station := by simpa [pairKey] using keys
        exact fresh (station ▸ List.mem_map_of_mem mem')
      have untouched : Finding.ended [e] f = some f := by simp [Finding.ended, other]
      obtain rfl := Option.some.inj (untouched.symm.trans ended)
      exact active e' (List.mem_cons_of_mem _ mem') confirmed f fmem key

/-- Where the records agree with the candidates, an active CROSS_FIGHT record is one of a confirmed pair. -/
theorem ended_of_recordsMatch {s : State} (h : s.RecordsMatch) {f : Finding} (mem : f ∈ s.report.findings) :
    (∃ e ∈ s.table.entries, e.pair.state.confirmedOrRecovering = true ∧ f.key = pairKey e.station)
      ↔ f.key.kind = .crossFight ∧ f.status.isActive = true := by
  obtain ⟨keys, locals, -, -, told, active⟩ := h
  constructor
  · rintro ⟨e, emem, confirmed, key⟩
    obtain ⟨g, gmem, gkey, reports⟩ := told e emem confirmed
    obtain rfl := List.inj_on_of_nodup_map keys gmem mem (gkey.trans key.symm)
    exact ⟨by rw [key]; rfl, RecordStatus.isActive_of_reports reports⟩
  · rintro ⟨pair, act⟩
    rcases active f mem act with ⟨x, xmem, xkey, -⟩ | ⟨e, emem, ekey, reports⟩
    · exact absurd (xkey ▸ pair) (localKeys_kind (locals ▸ List.mem_map_of_mem xmem : x.key ∈ localKeys))
    · exact ⟨e, emem, RecordStatus.confirmedOrRecovering_of_reports reports, ekey.symm⟩

theorem endAllCandidates_flags (s : State) : s.endAllCandidates.report.flags = s.report.flags :=
  foldl_keeps (P := fun u => u.report.flags = s.report.flags) (f := fun u e => u.endCandidate e)
    (fun u e h => by unfold State.endCandidate; split <;> exact h) _ rfl

/-- Settles O9: the blocks at their warm values, and the records of the ended pair candidates. -/
theorem restartWarmFromRunning : Obligations.RestartWarmFromRunning := by
  intro chars straps source s hears running numbered idle recordsMatch low high carries
  have answer := execRestartWarm_eq (straps := straps) hears numbered idle low high carries
  rw [if_pos running, State.warmRestart_eq] at answer
  have core : KeepsCore s (s.modLine Line.heard).endAllCandidates :=
    (KeepsCore.modLine _ s).trans (endAllCandidates_keepsCore _)
  have cfg := core.cfg
  have frame : PairFrame (s.modLine Line.heard) (s.modLine Line.heard).endAllCandidates :=
    PairFrame.foldl _ (fun s e => endCandidate_frame s e) _ _
  have draws : (s.modLine Line.heard).endAllCandidates.line.draws = s.line.draws := frame.course.draws
  have flags : (s.modLine Line.heard).endAllCandidates.report.flags = s.report.flags := endAllCandidates_flags _
  have free : s.stopped = false := by simpa [State.stopped] using listening_loader hears
  refine ⟨_, answer, ?_, ?_, rfl, ?_, ?_, ?_, rfl, ?_, flags, ?_, core.pending⟩
  · simp only [State.running, State.stopped, Bool.or_eq_false_iff] at free ⊢
    change (!(!(s.modLine Line.heard).endAllCandidates.loader.supply
      || (s.modLine Line.heard).endAllCandidates.loader.resetAsserted) && _) = true
    rw [core.loader, free.1, free.2]
    rfl
  · change { (s.modLine Line.heard).endAllCandidates.loader with
      station := .running, halt := .none, cause := .warmRequest } = _
    have station : s.loader.station = .running := by
      simp only [State.running, Bool.and_eq_true, beq_iff_eq] at running
      exact running.2
    rw [core.loader, ← station]
  · change { Evaluator.cold with
      sequence := (s.modLine Line.heard).endAllCandidates.eval.sequence
      epoch := (s.modLine Line.heard).endAllCandidates.eval.epoch, firstEvaluation := true } = _
    rw [core.eval]
  · change some (Timers.start (s.modLine Line.heard).endAllCandidates.cfg) = _
    rw [cfg]
    rfl
  · change (s.modLine Line.heard).endAllCandidates.locals.map
      (fun x => { x with active := candidateActive (s.modLine Line.heard).endAllCandidates.cfg x.key }) = _
    rw [core.locals, cfg]
  · change { Line.restart (s.modLine Line.heard).endAllCandidates.line.draws with
      restartPending := true, mark := some .concur } = _
    rw [draws]
  · have distinct := recordsMatch.2.2.1
    refine (endAll_findings s.table.entries (s := s.modLine Line.heard) distinct fun e emem confirmed f fmem key =>
      ((ended_of_recordsMatch recordsMatch fmem).mp ⟨e, emem, confirmed, key⟩).2).trans ?_
    refine List.filterMap_congr fun f mem => ?_
    simp only [Finding.ended, ended_of_recordsMatch recordsMatch mem]
    simp [Finding.done, Finding.withdrawn, RecordStatus.isActive]

end Sys2Proof.Machine
end

/-! The configuration image as loaded (section 10.3): parameters and taps in their ranges (O6), roles, scan list, own zone
entries and alert routing (O7). -/

section
namespace Sys2Proof.Machine

/-! ### Clamping (R176) -/

theorem clampTo_spec {lo hi : Nat} (h : lo ≤ hi) (n : Nat) :
    (n < lo → clampTo lo hi n = lo) ∧ (hi < n → clampTo lo hi n = hi) ∧ (lo ≤ n ∧ n ≤ hi → clampTo lo hi n = n) := by
  unfold clampTo
  omega

/-- Settles O6: every bound is a clamp, and a raised open_band is at most 41 above closed_band's upper bound. -/
theorem loadedValuesInRange : Obligations.LoadedValuesInRange := by
  intro image c clamped word
  have spec : ∀ {lo hi : Nat} (k : Nat), lo ≤ hi → clamped (parameterAt image k lo hi) (word k) lo hi :=
    fun _ h => clampTo_spec h _
  refine ⟨clampTo_spec (by decide) _, clampTo_spec (by decide) _, spec 1 (by decide), spec 2 (by decide),
    spec 3 (by decide), spec 4 (by decide), spec 5 (by decide), spec 7 (by decide), spec 8 (by decide),
    spec 9 (by decide), spec 10 (by decide), spec 11 (by decide), spec 12 (by decide),
    ⟨parameterAt image 6 41 819, spec 6 (by decide), rfl⟩, ?_⟩
  have closed : parameterAt image 5 0 205 ≤ 205 := (clampTo_range (by decide) _).2
  have opened : parameterAt image 6 41 819 ≤ 819 := (clampTo_range (by decide) _).2
  change parameterAt image 5 0 205 < (if parameterAt image 6 41 819 ≤ parameterAt image 5 0 205 then
      parameterAt image 5 0 205 + 41 else parameterAt image 6 41 819)
    ∧ (if parameterAt image 6 41 819 ≤ parameterAt image 5 0 205 then
      parameterAt image 5 0 205 + 41 else parameterAt image 6 41 819) ≤ 819
  split <;> omega

/-! ### Roles (R2, R177) -/

theorem Role.ofNumber_eq_some_iff {n : Nat} {r : Role} : Role.ofNumber n = some r ↔ n = r.number := by
  constructor
  · intro h
    unfold Role.ofNumber at h
    split at h <;> cases h <;> rfl
  · rintro rfl
    exact r.ofNumber_number

/-- A role stays with the lowest-numbered channel it is written on (R177 step 2). -/
theorem keepLowest_getD {r : Role} : ∀ (above : List Role) (l : List (Option Role)) (i : Nat),
    (keepLowest above l).getD i none = some r ↔
      l.getD i none = some r ∧ r ∉ above ∧ ∀ k < i, l.getD k none ≠ some r
  | _, [], i => by simp [keepLowest]
  | above, none :: rest, 0 => by simp [keepLowest]
  | above, none :: rest, i + 1 => by
    simp only [keepLowest, List.getD_cons_succ, keepLowest_getD above rest i, Nat.forall_lt_succ_left',
      List.getD_cons_zero]
    simp
  | above, some q :: rest, 0 => by
    simp only [keepLowest]
    split <;> rename_i taken <;> simp at taken ⊢
    · rintro rfl
      exact taken
    · rintro rfl
      exact taken
  | above, some q :: rest, i + 1 => by
    have shift : (∀ k < i + 1, (some q :: rest).getD k none ≠ some r) ↔ q ≠ r ∧ ∀ k < i, rest.getD k none ≠ some r := by
      rw [Nat.forall_lt_succ_left', List.getD_cons_zero, ne_eq, Option.some.injEq]
      rfl
    simp only [keepLowest, List.getD_cons_succ, shift]
    split
    · rename_i taken
      rw [List.getD_cons_succ, keepLowest_getD above rest i]
      refine and_congr_right fun _ => ⟨fun ⟨free, first⟩ => ⟨free, ?_, first⟩, fun ⟨free, _, first⟩ => ⟨free, first⟩⟩
      rintro rfl
      exact free (by simpa using taken)
    · rw [List.getD_cons_succ, keepLowest_getD (q :: above) rest i, List.mem_cons, not_or, ← ne_eq, ne_comm]
      refine and_congr_right fun _ => ?_
      rw [and_assoc, and_left_comm]

/-- R177 step 1: the role that a role byte names, of channels 0 to 9. -/
theorem writtenRoles_getD {image : List Byte} {channel : Nat} {r : Role} :
    (writtenRoles image).getD channel none = some r ↔ channel ≤ 9 ∧ byteAt image (4 + channel) = r.number := by
  rw [← Role.ofNumber_eq_some_iff, writtenRoles, List.getD_eq_getElem?_getD, List.getElem?_map]
  by_cases inside : channel < 10
  · simp [List.getElem?_range inside, Nat.le_of_lt_succ inside]
  · have beyond : ¬channel ≤ 9 := by omega
    rw [List.getElem?_eq_none (by simpa using inside)]
    simp [beyond]

/-- The roles written and kept on their lowest-numbered channel (R177 steps 1 and 2). -/
def keptRoles (image : List Byte) : List (Option Role) := keepLowest [] (writtenRoles image)

theorem keptRoles_getD {image : List Byte} {channel : Nat} {r : Role} :
    (keptRoles image).getD channel none = some r ↔
      channel ≤ 9 ∧ byteAt image (4 + channel) = r.number ∧ ∀ k < channel, byteAt image (4 + k) ≠ r.number := by
  rw [keptRoles, keepLowest_getD, writtenRoles_getD, and_assoc]
  refine and_congr_right fun inside => and_congr_right fun _ => ?_
  simp only [List.not_mem_nil, not_false_eq_true, true_and, ne_eq, writtenRoles_getD, not_and]
  exact forall₂_congr fun k lower => ⟨fun h => h (by omega), fun h _ => h⟩

/-- The scan list as written, of the clamped length (R175, R177 step 3). -/
def writtenScanList (image : List Byte) : List Nat :=
  (List.range (clampTo 1 16 (byteAt image 14))).map fun k => byteAt image (15 + k)

theorem loaded_scanList (image : List Byte) :
    (loadConfiguration image).scanList =
      (writtenScanList image).filter fun channel => ((keptRoles image).getD channel none).isSome := rfl

theorem mem_loaded_scanList {image : List Byte} {channel : Nat} :
    channel ∈ (loadConfiguration image).scanList ↔
      channel ∈ writtenScanList image ∧ ((keptRoles image).getD channel none).isSome = true := by
  rw [loaded_scanList, List.mem_filter]

/-- A channel keeps its role where an entry of the written scan list names it (R2, R177 step 4). -/
theorem loaded_roleOf {image : List Byte} {channel : Nat} {r : Role} :
    (loadConfiguration image).roleOf channel = some r ↔
      (keptRoles image).getD channel none = some r ∧ channel ∈ writtenScanList image := by
  have pruned : (loadConfiguration image).roleOf channel = if channel ≤ 9 then
      if channel ∈ (loadConfiguration image).scanList then (keptRoles image).getD channel none else none else none := by
    change (prunedRoles (loadConfiguration image).scanList (keptRoles image)).getD channel none = _
    rw [prunedRoles, List.getD_eq_getElem?_getD, List.getElem?_map]
    by_cases inside : channel < 10
    · simp [List.getElem?_range inside, Nat.le_of_lt_succ inside]
    · have beyond : ¬channel ≤ 9 := by omega
      rw [List.getElem?_eq_none (by simpa using inside)]
      simp [beyond]
  rw [pruned]
  constructor
  · intro h
    split_ifs at h with inside listed
    exact ⟨h, (mem_loaded_scanList.mp listed).1⟩
  · rintro ⟨kept, listed⟩
    rw [if_pos (keptRoles_getD.mp kept).1,
      if_pos (mem_loaded_scanList.mpr ⟨listed, by rw [kept]; rfl⟩), kept]

theorem mapped_iff_roleOf {c : Configuration} {r : Role} : c.mapped r = true ↔ ∃ channel, c.roleOf channel = some r := by
  simp only [Configuration.mapped, Configuration.roleOf, List.contains_iff_mem, List.mem_iff_getElem?,
    List.getD_eq_getElem?_getD]
  refine exists_congr fun channel => ?_
  cases c.roles[channel]? <;> simp

/-- Bytes 63 and 64 as one word, the more significant first (R175). -/
theorem loaded_routing (image : List Byte) :
    (loadConfiguration image).routing = image.getD 62 0#8 ++ image.getD 63 0#8 := by
  apply BitVec.eq_of_toNat_eq
  have low : (image.getD 63 0#8).toNat < 256 := BitVec.isLt _
  have high : (image.getD 62 0#8).toNat < 256 := BitVec.isLt _
  rw [BitVec.toNat_append, ← Nat.shiftLeft_add_eq_or_of_lt low]
  change (BitVec.ofNat 16 ((image.getD 62 0#8).toNat * 256 + (image.getD 63 0#8).toNat)).toNat = _
  rw [BitVec.toNat_ofNat, Nat.shiftLeft_eq]
  omega

/-- Settles O7: a channel's role by what is written on it, on the lower channels, and in the scan list. -/
theorem loadedRolesAndScanList : Obligations.LoadedRolesAndScanList := by
  intro image c written
  have named : ∀ channel, (c.roleOf channel).isSome = true → channel ∈ c.scanList := fun channel some_ => by
    obtain ⟨r, role⟩ := Option.isSome_iff_exists.mp some_
    obtain ⟨kept, listed⟩ := loaded_roleOf.mp role
    exact mem_loaded_scanList.mpr ⟨listed, by rw [kept]; rfl⟩
  have carries : ∀ channel, channel ∈ written → ((keptRoles image).getD channel none).isSome = true →
      (c.roleOf channel).isSome = true := fun channel listed kept => by
    obtain ⟨r, role⟩ := Option.isSome_iff_exists.mp kept
    exact Option.isSome_iff_exists.mpr ⟨r, loaded_roleOf.mpr ⟨role, listed⟩⟩
  refine ⟨fun channel r => ?_, List.filter_sublist, fun channel => ?_, fun r => ?_, rfl, fun k position => ?_,
    loaded_routing image⟩
  · rw [loaded_roleOf, keptRoles_getD, and_assoc, and_assoc]
    rfl
  · split
    · rename_i role
      exact List.count_filter (mem_loaded_scanList.mp (named channel role)).2
    · rename_i none_
      refine List.count_eq_zero.mpr fun listed => none_ ?_
      obtain ⟨inWritten, kept⟩ := mem_loaded_scanList.mp listed
      exact carries channel inWritten kept
  · rw [mapped_iff_roleOf, Configuration.multiplicity, List.countP_pos_iff]
    constructor
    · rintro ⟨channel, role⟩
      exact ⟨channel, named channel (by rw [role]; rfl), by simpa using role⟩
    · rintro ⟨channel, -, role⟩
      exact ⟨channel, by simpa using role⟩
  · have entry : c.zones.getD (k - 1) none = ownZoneAt image k := by
      simp only [List.mem_cons, List.not_mem_nil, or_false] at position
      rcases position with rfl | rfl | rfl | rfl <;> rfl
    rw [entry]
    refine ⟨fun inside => ?_, fun outside => ?_⟩
    · simp only [ownZoneAt, Bool.and_eq_true, decide_eq_true_eq, and_assoc]
      exact if_pos inside
    · simp only [ownZoneAt, Bool.and_eq_true, decide_eq_true_eq, and_assoc]
      exact if_neg (by omega)

end Sys2Proof.Machine
end

/-! Acquisition (chapter 1): a scan strobe (O11), the orders at one instant (O12), a conversion within a scan (O13) and at
its end (O14). -/

section
namespace Sys2Proof.Machine

/-! ### The clock (R5, R21) -/

theorem nextMultiple_of_dvd {step t : Nat} (positive : 0 < step) (divides : step ∣ t) : nextMultiple step t = t := by
  obtain ⟨k, rfl⟩ := divides
  have quotient : (step * k + step - 1) / step = k := by
    rw [Nat.add_sub_assoc positive, Nat.mul_add_div positive, Nat.div_eq_of_lt (by omega), Nat.add_zero]
  rw [nextMultiple, quotient, Nat.mul_comm]

theorem Configuration.scanInterval_pos (c : Configuration) : 0 < c.scanInterval :=
  Nat.mul_pos (by decide) (Nat.two_pow_pos _)

theorem Configuration.periodLength_pos (c : Configuration) : 0 < c.periodLength :=
  Nat.mul_pos (by decide) (Nat.two_pow_pos _)

/-- A strobe that is not late falls at the instant the scan timer gives. -/
theorem strobeInstant_of_due {c : Configuration} {T : Timers} (due : T.now ≤ T.nextStrobe)
    (divides : c.scanInterval ∣ T.nextStrobe) : T.strobeInstant c = T.nextStrobe := by
  rw [Timers.strobeInstant, max_eq_left due, nextMultiple_of_dvd c.scanInterval_pos divides]

/-- An expiry that is not late falls at the instant the period timer gives. -/
theorem expiryInstant_of_due {c : Configuration} {T : Timers} (due : T.now ≤ T.nextExpiry)
    (divides : c.periodLength ∣ T.nextExpiry) : T.expiryInstant c = T.nextExpiry := by
  rw [Timers.expiryInstant, max_eq_left due, nextMultiple_of_dvd c.periodLength_pos divides]

theorem Timers.reach_of_le {T : Timers} {instant : Nat} (h : T.now ≤ instant) :
    T.reach instant = { T with now := instant } := by
  rw [Timers.reach, max_eq_right h]

/-! ### SCAN_STROBE (R6 to R8, R17, R18) -/

theorem Bank.strobe_eq (fan occ : Bool) (reference : Option Bool) (b : Bank) :
    b.strobe fan occ reference = { b with
      scansTaken := b.scansTaken + 1
      fan := if fan = true ∧ b.fan ≠ .notProven then .proven else .notProven
      occChanged := b.occChanged || reference == some (!occ)
      occLast := some occ } := by
  have proven : b.fan.strobe fan = if fan = true ∧ b.fan ≠ .notProven then .proven else .notProven := by
    cases fan <;> cases b.fan <;> rfl
  rw [Bank.strobe, proven]

/-- A strobe counted, in the bank that is active at its instant or becomes so (R6, R8, R18). -/
def Acquisition.counted (fan occ newPeriod : Bool) (a : Acquisition) : Acquisition :=
  { a with
    active := if newPeriod then a.active else a.active.strobe fan occ a.occRef
    boundary := if newPeriod then some ((a.boundary.getD .cleared).strobe fan occ a.occRef) else a.boundary
    occRef := some occ }

theorem takeStrobe_of_idle {fan occ newPeriod : Bool} {t : Nat} {a : Acquisition} (idle : a.scan = none) :
    a.takeStrobe fan occ newPeriod t =
      { a.counted fan occ newPeriod with scan := some { strobe := t, position := 1 } } := by
  cases newPeriod <;> simp [Acquisition.takeStrobe, Acquisition.counted, idle]

theorem takeStrobe_of_scan {fan occ newPeriod : Bool} {t : Nat} {a : Acquisition} {x : Scan} (busy : a.scan = some x) :
    a.takeStrobe fan occ newPeriod t = { a.counted fan occ newPeriod with nextScan := some t } := by
  cases newPeriod <;> simp [Acquisition.takeStrobe, Acquisition.counted, busy]

/-- A strobe of a running station that is not late: dropped, or counted. -/
theorem execScanStrobe_of_due {fan occ : Bool} {s : State} {T : Timers} (runs : s.running = true)
    (timers : s.timers = some T) (due : T.now ≤ T.nextStrobe) (divides : s.cfg.scanInterval ∣ T.nextStrobe) :
    exec (.scanStrobe fan occ) s =
      let ticked := s.modTimers fun _ =>
        some { T with now := T.nextStrobe, nextStrobe := T.nextStrobe + s.cfg.scanInterval }
      finish (if s.acq.dropsStrobe s.cfg T.nextStrobe then ticked.flagScanOverrun
        else ticked.modAcq (.takeStrobe fan occ (T.nextExpiry ≤ T.nextStrobe) T.nextStrobe)) := by
  simp only [exec, execScanStrobe, runs, timers, strobeInstant_of_due due divides, Timers.reach_of_le due]
  split <;> rfl

/-- Settles O11: with no scan in progress the strobe is counted; while a conversion is due later it is dropped. -/
theorem scanStrobe : Obligations.ScanStrobe := by
  refine ⟨fun fan occ s T runs timers due divides idle next => ?_,
    fun fan occ s T x runs timers due divides busy later => ?_⟩
  · have free : s.acq.dropsStrobe s.cfg T.nextStrobe = false := by simp [Acquisition.dropsStrobe, idle, next]
    refine ⟨_, execScanStrobe_of_due runs timers due divides, ?_⟩
    simp only [free, Bool.false_eq_true, if_false]
    refine ⟨?_, rfl, rfl, rfl, rfl, rfl, ⟨rfl, rfl⟩, rfl, rfl⟩
    change s.acq.takeStrobe fan occ _ _ = _
    rw [takeStrobe_of_idle idle]
    by_cases new : T.nextExpiry ≤ T.nextStrobe <;>
      simp [Acquisition.counted, new, Bank.strobe_eq]
  · have drops : s.acq.dropsStrobe s.cfg T.nextStrobe = true := by
      have progress : x.inProgress s.cfg T.nextStrobe = true := by
        simp only [Scan.inProgress, Bool.not_eq_true', Bool.and_eq_false_iff, beq_eq_false_iff_ne]
        by_cases last : x.position = s.cfg.scanList.length
        · exact .inr (by omega)
        · exact .inl last
      simp [Acquisition.dropsStrobe, busy, progress]
    refine ⟨_, execScanStrobe_of_due runs timers due divides, ?_⟩
    simp only [drops, if_true]
    exact ⟨rfl, rfl, rfl, rfl, rfl, rfl, rfl, rfl, rfl, rfl⟩

/-! ### CONVERSION_COMPLETE (R9, R11 to R13) -/

/-- What becomes of a completed sample: the FIFO drained at once, or waiting for the completion (R11, R12). -/
theorem execConversionComplete_of_scan {v : Int} {s : State} {x : Scan} (runs : s.running = true)
    (scan : s.acq.scan = some x) :
    exec (.conversionComplete v) s =
      let advanced := (s.modTimers fun t => t.map (Timers.reach (x.strobe + 4 * x.position))).modAcq (.advance s.cfg x)
      let sample := formSample s.cfg x.position v
      finish (if 12 ≤ s.acq.fifo.length then advanced.flagSampleLoss
        else if s.evaluating then advanced.modAcq (.push sample)
        else advanced.modAcq fun a => (a.push sample).drainAll s.cfg) := by
  simp only [exec, execConversionComplete, runs, scan]
  split
  · rfl
  · split <;> rfl

theorem drainAll_push {c : Configuration} {a : Acquisition} (empty : a.fifo = []) (x : Sample) :
    (a.push x).drainAll c = a.drain c x := by
  obtain ⟨scan, nextScan, fifo, active, frozen, boundary, occRef, tracker⟩ := a
  subst empty
  rfl

theorem advance_of_lt {c : Configuration} {x : Scan} {a : Acquisition} (h : x.position < c.scanList.length) :
    a.advance c x = { a with scan := some { x with position := x.position + 1 } } := if_pos h

theorem advance_of_last {c : Configuration} {x : Scan} {a : Acquisition} (h : x.position = c.scanList.length) :
    a.advance c x = { a with scan := a.nextScan.map fun t => { strobe := t, position := 1 }, nextScan := none } :=
  if_neg (by omega)

/-- A sample taken into the counts, said of the voltage it was converted from (R10, R15). -/
theorem take_formSample (c : Configuration) (position : Nat) (v : Int) (n : RoleCounts) :
    n.take (formSample c position v) =
      if 16 ≤ conversionCode v ∧ conversionCode v ≤ 4079 then ⟨n.sum + conversionCode v, n.valid + 1, n.invalid⟩
      else ⟨n.sum, n.valid, n.invalid + 1⟩ := by
  simp only [RoleCounts.take, formSample, plausibleCode, Bool.and_eq_true, decide_eq_true_eq]

/-- A sample offered to the collector (R49). -/
theorem collect_formSample (c : Configuration) (position : Nat) (v : Int) (r : Role) (t : Tracker) :
    t.collect (some r) (formSample c position v) = { t with
      hvc := if r = .hvc ∧ 16 ≤ conversionCode v ∧ conversionCode v ≤ 4079 then some (conversionCode v) else t.hvc
      cvc := if r = .cvc ∧ 16 ≤ conversionCode v ∧ conversionCode v ≤ 4079 then some (conversionCode v) else t.cvc } := by
  simp only [Tracker.collect, formSample, plausibleCode, Bool.and_eq_true, decide_eq_true_eq]
  by_cases good : 16 ≤ conversionCode v ∧ conversionCode v ≤ 4079
  · cases r <;> simp [good]
  · simp [good]

theorem drain_of_role {c : Configuration} {a : Acquisition} {x : Sample} {r : Role} (role : c.roleOf x.channel = some r)
    (inside : x.lastOfScan = false) :
    a.drain c x = { a with
      active := { a.active with counts := a.active.counts.set r ((a.active.counts.get r).take x) }
      tracker := a.tracker.collect (some r) x } := by
  simp [Acquisition.drain, role, inside]

theorem drain_of_last {c : Configuration} {a : Acquisition} {x : Sample} {r : Role} (role : c.roleOf x.channel = some r)
    (last : x.lastOfScan = true) :
    a.drain c x = { a with
      active := { a.active with
        counts := a.active.counts.set r ((a.active.counts.get r).take x)
        reversals := a.active.reversals + if ((a.tracker.collect (some r) x).scanEnd c).2 then 1 else 0 }
      tracker := ((a.tracker.collect (some r) x).scanEnd c).1 } := by
  simp only [Acquisition.drain, role, last, if_true]
  split <;> rfl

/-- Settles O13: a sample drained at once into its role and the collector, or waiting, or lost. -/
theorem conversionWithinScan : Obligations.ConversionWithinScan := by
  refine ⟨fun v s T x r runs idle timers due scan empty inside role => ?_,
    fun v s x runs evaluating scan room => ?_⟩
  · refine ⟨_, execConversionComplete_of_scan runs scan, ?_⟩
    rw [if_neg (by simp [empty]), if_neg (by simp [idle])]
    refine ⟨?_, ?_, rfl, rfl, rfl, rfl, ⟨rfl, rfl⟩, rfl, rfl⟩
    · change ((s.acq.advance s.cfg x).push _).drainAll s.cfg = _
      have within : (formSample s.cfg x.position v).lastOfScan = false := by
        simp only [formSample, beq_eq_false_iff_ne]
        omega
      rw [drainAll_push (by rw [advance_fifo]; exact empty), advance_of_lt inside,
        drain_of_role (x := formSample s.cfg x.position v) role within, take_formSample, collect_formSample]
    · change s.timers.map (Timers.reach _) = _
      rw [timers, Option.map_some, Timers.reach_of_le due]
  · refine ⟨_, execConversionComplete_of_scan runs scan, ?_⟩
    simp only [evaluating, if_true]
    have sequencer : s.acq.advance s.cfg x = { s.acq with
        scan := if x.position < s.cfg.scanList.length then some { x with position := x.position + 1 }
          else s.acq.nextScan.map (fun strobe => { strobe := strobe, position := 1 })
        nextScan := if x.position < s.cfg.scanList.length then s.acq.nextScan else none } := by
      unfold Acquisition.advance
      split <;> rfl
    by_cases full : 12 ≤ s.acq.fifo.length
    · rw [if_pos full, if_neg (not_lt.mpr full), if_neg (not_lt.mpr full)]
      refine ⟨?_, rfl, rfl, rfl, rfl, rfl, rfl, rfl, rfl, rfl⟩
      change s.acq.advance s.cfg x = _
      rw [sequencer]
    · rw [if_neg full, if_pos (not_le.mp full), if_pos (not_le.mp full)]
      refine ⟨?_, rfl, rfl, rfl, rfl, rfl, rfl, rfl, rfl, rfl⟩
      change (s.acq.advance s.cfg x).push _ = _
      rw [sequencer]
      rfl

theorem scanEnd_collector (c : Configuration) (t : Tracker) :
    (t.scanEnd c).1.hvc = none ∧ (t.scanEnd c).1.cvc = none := by
  cases effort : t.effort c with
  | none => rw [Tracker.scanEnd_of_skipped effort]; exact ⟨rfl, rfl⟩
  | some e => rw [Tracker.scanEnd_of_effort effort]; exact ⟨rfl, rfl⟩

/-- Settles O14: the scan's end drained, its effort or its skipping left to the tracker. -/
theorem scanEndDrained : Obligations.ScanEndDrained := by
  intro v s T x r runs idle timers due scan next empty last role
  refine ⟨_, execConversionComplete_of_scan runs scan, ?_⟩
  rw [if_neg (by simp [empty]), if_neg (by simp [idle])]
  have final : (formSample s.cfg x.position v).lastOfScan = true := by simpa [formSample] using last
  generalize acq : (s.acq.advance s.cfg x).push (formSample s.cfg x.position v) = pushed
  have drained : pushed.drainAll s.cfg = { s.acq with
      scan := none
      active := { s.acq.active with
        counts := s.acq.active.counts.set r ((s.acq.active.counts.get r).take (formSample s.cfg x.position v))
        reversals := s.acq.active.reversals +
          if ((s.acq.tracker.collect (some r) (formSample s.cfg x.position v)).scanEnd s.cfg).2 then 1 else 0 }
      tracker := ((s.acq.tracker.collect (some r) (formSample s.cfg x.position v)).scanEnd s.cfg).1 } := by
    rw [← acq, drainAll_push (by rw [advance_fifo]; exact empty), advance_of_last last, next,
      drain_of_last (x := formSample s.cfg x.position v) role final]
    simp [next]
  have after : (((s.modTimers fun t => t.map (Timers.reach (x.strobe + 4 * x.position))).modAcq
      (.advance s.cfg x)).modAcq fun a => (a.push (formSample s.cfg x.position v)).drainAll s.cfg).driveLines.acq
        = pushed.drainAll s.cfg := by rw [← acq]; rfl
  rw [after, drained]
  obtain ⟨heat, cool⟩ := scanEnd_collector s.cfg (s.acq.tracker.collect (some r) (formSample s.cfg x.position v))
  refine ⟨⟨rfl, heat, cool, fun skipped => ?_, rfl⟩, rfl, rfl, rfl, rfl, rfl, ?_, rfl, next, rfl, empty, rfl, rfl, rfl,
    rfl, rfl, rfl, ⟨rfl, rfl⟩, rfl, rfl⟩
  · rw [Tracker.scanEnd_of_skipped skipped, collect_formSample]
    exact ⟨rfl, rfl, rfl⟩
  · change s.timers.map (Timers.reach _) = _
    rw [timers, Option.map_some, Timers.reach_of_le due]

/-! ### Two events at one instant (R7, R8)

A strobe, a conversion and an expiry change the acquisition unit, the timers, the evaluator and the flags; an expiry also
ages the entries, which reads none of these. The state that such events leave is the aged state `beside` the blocks that
they have written, so that two orders agree when they have written the same. -/

/-- The state with the blocks that a strobe, a conversion and an expiry write replaced, the finding list apart. -/
def State.beside (a : Acquisition) (T : Option Timers) (e : Evaluator) (r : Report) (s : State) : State :=
  { s with acq := a, timers := T, eval := e, report := { r with findings := s.report.findings } }

section
variable (a : Acquisition) (T : Option Timers) (e : Evaluator) (r : Report) (p : Nat) (s : State)

theorem beside_driveLines_congr {r r' : Report} (flags : r.flags = r'.flags) :
    (s.beside a T e r).driveLines = (s.beside a T e r').driveLines := by
  obtain ⟨findings, f, alertA, alertB, fault⟩ := r
  obtain ⟨findings', f', alertA', alertB', fault'⟩ := r'
  obtain rfl : f = f' := flags
  rfl

theorem testClaim_beside : (s.beside a T e r).testClaim p = (s.testClaim p).beside a T e r := by
  cases found : s.entry p with
  | none => rw [testClaim_of_absent found, testClaim_of_absent (s := s.beside a T e r) found]
  | some x =>
    rw [testClaim_of_entry found, testClaim_of_entry (s := s.beside a T e r) found, apply_ite (State.beside a T e r)]
    rfl

theorem withdrawIfClaiming_beside :
    (s.beside a T e r).withdrawIfClaiming p = (s.withdrawIfClaiming p).beside a T e r := by
  unfold State.withdrawIfClaiming
  rw [apply_ite (State.beside a T e r)]
  rfl

theorem unfollow_beside : (s.beside a T e r).unfollow p = (s.unfollow p).beside a T e r := by
  have unheld : (s.beside a T e r).becomeUnheld p = (s.becomeUnheld p).beside a T e r :=
    testClaim_beside a T e r p (s.modEntry p _)
  rw [State.unfollow, State.unfollow, apply_ite (State.beside a T e r), unheld]
  rfl

theorem endCandidate_beside (x : Entry) : (s.beside a T e r).endCandidate x = (s.endCandidate x).beside a T e r := by
  unfold State.endCandidate
  rw [apply_ite (State.beside a T e r)]
  rfl

theorem removeEntry_beside : (s.beside a T e r).removeEntry p = (s.removeEntry p).beside a T e r := by
  have same : (s.beside a T e r).entry p = s.entry p := rfl
  cases found : s.entry p with
  | none => simp only [State.removeEntry, same, found]
  | some x =>
    simp only [State.removeEntry, same, found]
    rw [endCandidate_beside, withdrawIfClaiming_beside]
    rfl

theorem settleAge_beside : (s.beside a T e r).settleAge p = (s.settleAge p).beside a T e r := by
  have same : (s.beside a T e r).entry p = s.entry p := rfl
  cases found : s.entry p with
  | none => simp only [State.settleAge, same, found]
  | some x =>
    simp only [State.settleAge, same, found]
    rw [removeEntry_beside, unfollow_beside, apply_ite (State.beside a T e r), apply_ite (State.beside a T e r)]

theorem ageEntries_beside : (s.beside a T e r).ageEntries = s.ageEntries.beside a T e r := by
  have fold : ∀ (l : List Nat) (u : State),
      l.foldl State.settleAge (u.beside a T e r) = (l.foldl State.settleAge u).beside a T e r := by
    intro l
    induction l with
    | nil => exact fun _ => rfl
    | cons q l ih =>
      intro u
      rw [List.foldl_cons, List.foldl_cons, settleAge_beside, ih]
  exact fold (s.table.entries.map Entry.station) (s.modTable fun t => { t with entries := t.entries.map Entry.grow })

theorem access_beside : (s.beside a T e r).access = s.access.beside a T e r := by
  unfold State.access
  rw [apply_ite (State.beside a T e r)]
  rfl

end

/-- The entries aged, the duplicate timer lowered, and a count begun where a claim has been queued. -/
def State.aged (s : State) : State := s.ageEntries.tickDuplicate.access

theorem aged_keepsCore (s : State) : KeepsCore s s.aged :=
  ((ageEntries_keepsCore s).trans (.modTable _ _)).trans (access_keepsCore _)

theorem aged_beside (a : Acquisition) (T : Option Timers) (e : Evaluator) (r : Report) (s : State) :
    (s.beside a T e r).aged = s.aged.beside a T e r := by
  rw [State.aged, ageEntries_beside]
  exact access_beside a T e r s.ageEntries.tickDuplicate

/-- An expiry (R22): the entries aged, beside the blocks that it writes. -/
theorem execPeriodExpiry_eq {s : State} {T : Timers} (runs : s.running = true) (idle : s.evaluating = false)
    (timers : s.timers = some T) {t : Nat} (instant : T.expiryInstant s.cfg = t) :
    exec .periodExpiry s = finish (s.aged.beside s.acq.swapBanks
      (some { T.reach t with nextExpiry := t + s.cfg.periodLength })
      { s.eval with
        sequence := s.eval.sequence + 1
        inFlight := some (t + evaluationDuration s.aged.table.entries.length) } s.report) := by
  have entries : s.aged.table = s.ageEntries.tickDuplicate.table := by
    unfold State.aged
    rcases s.ageEntries.tickDuplicate.access_eq with same | same <;> rw [same]
    rfl
  have begun := ageEntries_beside s.acq.swapBanks (some { T.reach t with nextExpiry := t + s.cfg.periodLength })
    { s.eval with sequence := s.eval.sequence + 1 } s.report s
  simp only [exec, execPeriodExpiry, runs, idle, timers, instant, Bool.not_false, Bool.and_self]
  rw [entries]
  refine congrArg finish (Eq.trans ?_ (access_beside _ _ _ _ s.ageEntries.tickDuplicate))
  refine congrArg (fun u : State => (u.tickDuplicate.beginEvaluation t).access) begun

/-- An expiry that is not late (R22). -/
theorem execPeriodExpiry_of_due {s : State} {T : Timers} (runs : s.running = true) (idle : s.evaluating = false)
    (timers : s.timers = some T) (due : T.now ≤ T.nextExpiry) (divides : s.cfg.periodLength ∣ T.nextExpiry) :
    exec .periodExpiry s = finish (s.aged.beside s.acq.swapBanks
      (some { T with now := T.nextExpiry, nextExpiry := T.nextExpiry + s.cfg.periodLength })
      { s.eval with
        sequence := s.eval.sequence + 1
        inFlight := some (T.nextExpiry + evaluationDuration s.aged.table.entries.length) } s.report) := by
  rw [execPeriodExpiry_eq runs idle timers (expiryInstant_of_due due divides), Timers.reach_of_le due]

/-- A strobe that is not late, said of the blocks that it writes. -/
theorem execScanStrobe_beside {fan occ : Bool} {s : State} {T : Timers} (runs : s.running = true)
    (timers : s.timers = some T) (due : T.now ≤ T.nextStrobe) (divides : s.cfg.scanInterval ∣ T.nextStrobe) :
    exec (.scanStrobe fan occ) s = .next (s.beside
      (if s.acq.dropsStrobe s.cfg T.nextStrobe then s.acq
        else s.acq.takeStrobe fan occ (T.nextExpiry ≤ T.nextStrobe) T.nextStrobe)
      (some { T with now := T.nextStrobe, nextStrobe := T.nextStrobe + s.cfg.scanInterval }) s.eval
      { s.report with flags := if s.acq.dropsStrobe s.cfg T.nextStrobe then
          { s.report.flags with scanOverrun := true } else s.report.flags }).driveLines := by
  rw [execScanStrobe_of_due runs timers due divides]
  dsimp only
  split <;> rfl

/-- The acquisition unit after a conversion: its sample lost, waiting, or drained (R11 to R13). -/
def Acquisition.converted (c : Configuration) (evaluating : Bool) (v : Int) (x : Scan) (a : Acquisition) : Acquisition :=
  if 12 ≤ a.fifo.length then a.advance c x
  else if evaluating then (a.advance c x).push (formSample c x.position v)
  else ((a.advance c x).push (formSample c x.position v)).drainAll c

/-- A conversion, said of the blocks that it writes. -/
theorem execConversionComplete_beside {v : Int} {s : State} {x : Scan} (runs : s.running = true)
    (scan : s.acq.scan = some x) :
    exec (.conversionComplete v) s = .next (s.beside (s.acq.converted s.cfg s.evaluating v x)
      (s.timers.map (Timers.reach (x.strobe + 4 * x.position))) s.eval
      { s.report with flags := if 12 ≤ s.acq.fifo.length then { s.report.flags with sampleLoss := true }
        else s.report.flags }).driveLines := by
  rw [execConversionComplete_of_scan runs scan]
  unfold Acquisition.converted
  dsimp only
  split
  · rfl
  · split <;> rfl

/-- A strobe counted, with the sequencer that it leaves. -/
def Acquisition.strobed (fan occ newPeriod : Bool) (scan : Option Scan) (a : Acquisition) : Acquisition :=
  { a.counted fan occ newPeriod with scan := scan, nextScan := none }

/-- A drain and a strobe write different counts of the active bank. -/
theorem drain_strobed (fan occ newPeriod : Bool) (scan : Option Scan) (c : Configuration) (a : Acquisition) (x : Sample) :
    (a.strobed fan occ newPeriod scan).drain c x = (a.drain c x).strobed fan occ newPeriod scan := by
  unfold Acquisition.drain Acquisition.strobed Acquisition.counted
  cases newPeriod <;> cases c.roleOf x.channel <;> dsimp only <;> split <;> first | rfl | (split <;> rfl)

theorem drain_sequencer (c : Configuration) (a : Acquisition) (x : Sample) :
    (a.drain c x).scan = a.scan ∧ (a.drain c x).nextScan = a.nextScan := by
  unfold Acquisition.drain
  dsimp only
  split <;> exact ⟨rfl, rfl⟩

theorem drainAll_strobed (fan occ newPeriod : Bool) (scan : Option Scan) (c : Configuration) (a : Acquisition) :
    (a.strobed fan occ newPeriod scan).drainAll c = (a.drainAll c).strobed fan occ newPeriod scan := by
  have fold : ∀ (l : List Sample) (b : Acquisition), l.foldl (Acquisition.drain c) (b.strobed fan occ newPeriod scan)
      = (l.foldl (Acquisition.drain c) b).strobed fan occ newPeriod scan := by
    intro l
    induction l with
    | nil => exact fun _ => rfl
    | cons x l ih =>
      intro b
      rw [List.foldl_cons, List.foldl_cons, drain_strobed, ih]
  exact fold a.fifo { a with fifo := [] }

theorem drainAll_sequencer (c : Configuration) (a : Acquisition) :
    (a.drainAll c).scan = a.scan ∧ (a.drainAll c).nextScan = a.nextScan := by
  have fold : ∀ (l : List Sample) (b : Acquisition),
      (l.foldl (Acquisition.drain c) b).scan = b.scan ∧ (l.foldl (Acquisition.drain c) b).nextScan = b.nextScan := by
    intro l
    induction l with
    | nil => exact fun _ => ⟨rfl, rfl⟩
    | cons x l ih =>
      intro b
      obtain ⟨scan, next⟩ := drain_sequencer c b x
      rw [List.foldl_cons, ← scan, ← next]
      exact ih _
  exact fold a.fifo { a with fifo := [] }

/-- A scan's last conversion, no next scan having begun, leaves the sequencer at rest. -/
theorem converted_sequencer {c : Configuration} {evaluating : Bool} {v : Int} {x : Scan} {a : Acquisition}
    (last : x.position = c.scanList.length) (next : a.nextScan = none) :
    (a.converted c evaluating v x).scan = none ∧ (a.converted c evaluating v x).nextScan = none := by
  have advanced : (a.advance c x).scan = none ∧ (a.advance c x).nextScan = none := by
    rw [advance_of_last last, next]
    exact ⟨rfl, rfl⟩
  unfold Acquisition.converted
  split
  · exact advanced
  · split
    · exact advanced
    · obtain ⟨scan, nextScan⟩ := drainAll_sequencer c ((a.advance c x).push (formSample c x.position v))
      rw [scan, nextScan]
      exact advanced

/-- The last conversion of a scan, taken after the strobe of its instant or before it. -/
theorem converted_takeStrobe {fan occ newPeriod evaluating : Bool} {c : Configuration} {v : Int} {x : Scan} {t : Nat}
    {a : Acquisition} (scan : a.scan = some x) (last : x.position = c.scanList.length) (next : a.nextScan = none) :
    (a.takeStrobe fan occ newPeriod t).converted c evaluating v x
      = (a.converted c evaluating v x).takeStrobe fan occ newPeriod t := by
  have advanced : (a.takeStrobe fan occ newPeriod t).advance c x
      = (a.advance c x).strobed fan occ newPeriod (some { strobe := t, position := 1 }) := by
    rw [takeStrobe_of_scan scan, advance_of_last last, advance_of_last last]
    rfl
  obtain ⟨idle, none_⟩ := converted_sequencer (evaluating := evaluating) (v := v) last next
  have taken : (a.converted c evaluating v x).takeStrobe fan occ newPeriod t
      = (a.converted c evaluating v x).strobed fan occ newPeriod (some { strobe := t, position := 1 }) := by
    rw [takeStrobe_of_idle idle]
    simp only [Acquisition.strobed, ← none_]
    rfl
  rw [taken]
  unfold Acquisition.converted
  rw [takeStrobe_fifo, advanced, apply_ite (Acquisition.strobed fan occ newPeriod (some { strobe := t, position := 1 })),
    apply_ite (Acquisition.strobed fan occ newPeriod (some { strobe := t, position := 1 })), ← drainAll_strobed]
  rfl

theorem takeStrobe_scan {fan occ newPeriod : Bool} {t : Nat} {a : Acquisition} {x : Scan} (scan : a.scan = some x) :
    (a.takeStrobe fan occ newPeriod t).scan = some x := by
  rw [takeStrobe_of_scan scan]
  exact scan

section
variable {a : Acquisition} {T : Timers} {e : Evaluator} {r : Report} {s : State} (runs : s.running = true)

include runs

theorem strobe_after {fan occ : Bool} (due : T.now ≤ T.nextStrobe) (divides : s.cfg.scanInterval ∣ T.nextStrobe) :
    exec (.scanStrobe fan occ) (s.beside a (some T) e r).driveLines = .next (s.beside
      (if a.dropsStrobe s.cfg T.nextStrobe then a
        else a.takeStrobe fan occ (T.nextExpiry ≤ T.nextStrobe) T.nextStrobe)
      (some { T with now := T.nextStrobe, nextStrobe := T.nextStrobe + s.cfg.scanInterval }) e
      { r with flags := if a.dropsStrobe s.cfg T.nextStrobe then { r.flags with scanOverrun := true }
        else r.flags }).driveLines :=
  (execScanStrobe_beside (s := (s.beside a (some T) e r).driveLines) runs rfl due divides).trans
    (congrArg Host.Outcome.next (beside_driveLines_congr _ _ _ s rfl))

theorem conversion_after {v : Int} {x : Scan} (scan : a.scan = some x) (flight : e.inFlight = s.eval.inFlight) :
    exec (.conversionComplete v) (s.beside a (some T) e r).driveLines = .next (s.beside
      (a.converted s.cfg s.evaluating v x) (some (T.reach (x.strobe + 4 * x.position))) e
      { r with flags := if 12 ≤ a.fifo.length then { r.flags with sampleLoss := true } else r.flags }).driveLines := by
  have evaluating : (s.beside a (some T) e r).driveLines.evaluating = s.evaluating := congrArg Option.isSome flight
  rw [execConversionComplete_beside (s := (s.beside a (some T) e r).driveLines) runs scan, evaluating]
  exact congrArg Host.Outcome.next (beside_driveLines_congr _ _ _ s rfl)

theorem expiry_after (idle : e.inFlight = none) (due : T.now ≤ T.nextExpiry)
    (divides : s.cfg.periodLength ∣ T.nextExpiry) :
    exec .periodExpiry (s.beside a (some T) e r).driveLines = .next (s.aged.beside a.swapBanks
      (some { T with now := T.nextExpiry, nextExpiry := T.nextExpiry + s.cfg.periodLength })
      { e with
        sequence := e.sequence + 1
        inFlight := some (T.nextExpiry + evaluationDuration s.aged.table.entries.length) } r).driveLines := by
  have evaluating : (s.beside a (some T) e r).driveLines.evaluating = false := by
    change e.inFlight.isSome = false
    rw [idle]
    rfl
  have driven : (s.beside a (some T) e r).driveLines
      = s.beside a (some T) e (s.beside a (some T) e r).driveLines.report := rfl
  have aged := (congrArg State.aged driven).trans (aged_beside a (some T) e (s.beside a (some T) e r).driveLines.report s)
  refine (execPeriodExpiry_of_due (s := (s.beside a (some T) e r).driveLines) runs evaluating rfl due divides).trans ?_
  rw [aged]
  exact congrArg Host.Outcome.next (beside_driveLines_congr _ _ _ s.aged rfl)

end

/-- A strobe at the instant of the scan's last conversion, taken after it or before it (R7). -/
theorem strobe_conversion_commute {fan occ : Bool} {v : Int} {s : State} {T : Timers} {x : Scan}
    (runs : s.running = true) (timers : s.timers = some T) (due : T.now ≤ T.nextStrobe)
    (divides : s.cfg.scanInterval ∣ T.nextStrobe) (scan : s.acq.scan = some x) (next : s.acq.nextScan = none)
    (last : x.position = s.cfg.scanList.length) (instant : x.strobe + 4 * x.position = T.nextStrobe) :
    ∃ a b t, exec (.scanStrobe fan occ) s = .next a ∧ exec (.conversionComplete v) a = .next t
      ∧ exec (.conversionComplete v) s = .next b ∧ exec (.scanStrobe fan occ) b = .next t
      ∧ t.acq.scan = some { strobe := T.nextStrobe, position := 1 } ∧ t.acq.occRef = some occ := by
  have takes : s.acq.dropsStrobe s.cfg T.nextStrobe = false := by
    simp [Acquisition.dropsStrobe, next, scan, Scan.inProgress, last, ← instant]
  obtain ⟨idle, none_⟩ := converted_sequencer (evaluating := s.evaluating) (v := v) last next
  have free : (s.acq.converted s.cfg s.evaluating v x).dropsStrobe s.cfg T.nextStrobe = false := by
    simp [Acquisition.dropsStrobe, idle, none_]
  have strobed := execScanStrobe_beside (fan := fan) (occ := occ) runs timers due divides
  have converted := execConversionComplete_beside (v := v) runs scan
  rw [takes, if_neg Bool.false_ne_true, if_neg Bool.false_ne_true] at strobed
  rw [timers, Option.map_some, instant, Timers.reach_of_le due] at converted
  have strobedLast := strobe_after (fan := fan) (occ := occ) runs (T := { T with now := T.nextStrobe }) (e := s.eval)
    (a := s.acq.converted s.cfg s.evaluating v x) (r := { s.report with flags := if 12 ≤ s.acq.fifo.length then
      { s.report.flags with sampleLoss := true } else s.report.flags }) le_rfl divides
  have convertedLast := conversion_after (v := v) runs (takeStrobe_scan (fan := fan) (occ := occ)
    (newPeriod := T.nextExpiry ≤ T.nextStrobe) (t := T.nextStrobe) scan) (e := s.eval) (r := s.report)
    (T := { T with now := T.nextStrobe, nextStrobe := T.nextStrobe + s.cfg.scanInterval }) rfl
  rw [free, if_neg Bool.false_ne_true, if_neg Bool.false_ne_true] at strobedLast
  have reached := Timers.reach_of_le (instant := T.nextStrobe)
    (T := { T with now := T.nextStrobe, nextStrobe := T.nextStrobe + s.cfg.scanInterval }) le_rfl
  rw [converted_takeStrobe scan last next, instant, reached, takeStrobe_fifo] at convertedLast
  refine ⟨_, _, _, strobed, convertedLast, converted, strobedLast, ?_, ?_⟩
  · change ((s.acq.converted s.cfg s.evaluating v x).takeStrobe fan occ _ _).scan = _
    rw [takeStrobe_of_idle idle]
  · change ((s.acq.converted s.cfg s.evaluating v x).takeStrobe fan occ _ _).occRef = _
    rw [takeStrobe_of_idle idle]
    rfl

/-- A strobe counted before an expiry of its instant counts in the bank that the expiry makes active (R8). -/
theorem swapBanks_takeStrobe (fan occ : Bool) (t : Nat) (a : Acquisition) :
    (a.takeStrobe fan occ true t).swapBanks = a.swapBanks.takeStrobe fan occ false t := by
  have same : a.swapBanks.scan = a.scan := rfl
  cases scan : a.scan with
  | none =>
    rw [takeStrobe_of_idle scan, takeStrobe_of_idle (same.trans scan)]
    rfl
  | some x =>
    rw [takeStrobe_of_scan scan, takeStrobe_of_scan (same.trans scan)]
    rfl

theorem takeStrobe_frozen (fan occ newPeriod : Bool) (t : Nat) (a : Acquisition) :
    (a.takeStrobe fan occ newPeriod t).frozen = a.frozen := by
  cases scan : a.scan with
  | none => rw [takeStrobe_of_idle scan]; rfl
  | some x => rw [takeStrobe_of_scan scan]; rfl

/-- A strobe at a period expiry, taken before it or after it (R8). -/
theorem strobe_expiry_commute {fan occ : Bool} {s : State} {T : Timers} (runs : s.running = true)
    (idle : s.evaluating = false) (timers : s.timers = some T) (due : T.now ≤ T.nextStrobe)
    (divides : s.cfg.scanInterval ∣ T.nextStrobe) (divides' : s.cfg.periodLength ∣ T.nextExpiry)
    (meet : T.nextExpiry = T.nextStrobe) :
    ∃ a b t, exec (.scanStrobe fan occ) s = .next a ∧ exec .periodExpiry a = .next t
      ∧ exec .periodExpiry s = .next b ∧ exec (.scanStrobe fan occ) b = .next t ∧ t.acq.frozen = s.acq.active := by
  have core := aged_keepsCore s
  have flight : s.eval.inFlight = none := by simpa [State.evaluating] using idle
  have later : ¬T.nextExpiry + s.cfg.periodLength ≤ T.nextStrobe := by
    have positive := s.cfg.periodLength_pos
    omega
  have strobed := execScanStrobe_beside (fan := fan) (occ := occ) runs timers due divides
  have expired := execPeriodExpiry_of_due runs idle timers (meet ▸ due) divides'
  rw [decide_eq_true (le_of_eq meet)] at strobed
  have strobedLast := strobe_after (s := s.aged) (fan := fan) (occ := occ) (core.running.trans runs)
    (a := s.acq.swapBanks) (r := s.report)
    (T := { T with now := T.nextExpiry, nextExpiry := T.nextExpiry + s.cfg.periodLength })
    (e := { s.eval with
      sequence := s.eval.sequence + 1
      inFlight := some (T.nextExpiry + evaluationDuration s.aged.table.entries.length) }) (le_of_eq meet)
    (by rw [core.cfg]; exact divides)
  have expiredLast := expiry_after runs flight (T := { T with
      now := T.nextStrobe, nextStrobe := T.nextStrobe + s.cfg.scanInterval }) (le_of_eq meet.symm) divides'
    (a := if s.acq.dropsStrobe s.cfg T.nextStrobe then s.acq else s.acq.takeStrobe fan occ true T.nextStrobe)
    (r := { s.report with flags := if s.acq.dropsStrobe s.cfg T.nextStrobe then
      { s.report.flags with scanOverrun := true } else s.report.flags })
  have drops : s.acq.swapBanks.dropsStrobe s.aged.cfg T.nextStrobe = s.acq.dropsStrobe s.cfg T.nextStrobe := by
    rw [core.cfg]
    rfl
  rw [decide_eq_false later, core.cfg] at strobedLast
  rw [apply_ite Acquisition.swapBanks, swapBanks_takeStrobe] at expiredLast
  have instants : ({ T with now := T.nextStrobe, nextStrobe := T.nextStrobe + s.cfg.scanInterval
                            nextExpiry := T.nextExpiry + s.cfg.periodLength } : Timers)
      = { T with now := T.nextExpiry, nextStrobe := T.nextStrobe + s.cfg.scanInterval
                 nextExpiry := T.nextExpiry + s.cfg.periodLength } := by rw [meet]
  rw [instants] at strobedLast
  refine ⟨_, _, _, strobed, expiredLast, expired, strobedLast, ?_⟩
  change (if s.acq.dropsStrobe s.cfg T.nextStrobe then s.acq.swapBanks
    else s.acq.swapBanks.takeStrobe fan occ false T.nextStrobe).frozen = _
  split
  · rfl
  · exact takeStrobe_frozen ..

/-- Settles O12: either order writes the same blocks. -/
theorem ordersAtOneInstant : Obligations.OrdersAtOneInstant :=
  ⟨fun _ _ _ _ _ _ => strobe_conversion_commute, fun _ _ _ _ => strobe_expiry_commute⟩

end Sys2Proof.Machine
end

/-! The check (R140): what it accepts and what it detects (O42); and a digest read back from its body (R148, O43).

The register of the check moves linearly in the data bits, so that two runs of characters of one length leave registers
that differ by the register that their differences alone would leave. One bit or three change the register's parity; two
bits cancel only when the register returns to its value after the first, which it does not within a telegram's length. -/

section
namespace Sys2Proof.Machine

/-! ### The register moves linearly -/

/-- The places that a bit inverts when it differs from the register's highest place (R140). -/
def feedback (differs : Bool) : Word16 := if differs then 0x1021#16 else 0#16

theorem feedback_xor (a b : Bool) : feedback (a ^^ b) = feedback a ^^^ feedback b := by
  cases a <;> cases b <;> decide

theorem checkShift_eq (r : Word16) (bit : Bool) :
    checkShift r bit = (r <<< 1) ^^^ feedback (r.getLsbD 15 ^^ bit) := by
  unfold checkShift feedback
  cases r.getLsbD 15 <;> cases bit <;> simp

theorem checkShift_xor (r q : Word16) (a b : Bool) :
    checkShift (r ^^^ q) (a ^^ b) = checkShift r a ^^^ checkShift q b := by
  simp only [checkShift_eq, BitVec.getLsbD_xor, BitVec.shiftLeft_xor_distrib, feedback_xor]
  ac_rfl

theorem foldl_checkShift_xor : ∀ (as bs : List Bool) (r q : Word16), as.length = bs.length →
    (List.zipWith xor as bs).foldl checkShift (r ^^^ q) = as.foldl checkShift r ^^^ bs.foldl checkShift q
  | [], [], _, _, _ => rfl
  | a :: as, b :: bs, r, q, h => by
    rw [List.zipWith_cons_cons, List.foldl_cons, List.foldl_cons, List.foldl_cons, checkShift_xor]
    exact foldl_checkShift_xor as bs _ _ (by simpa using h)

theorem charBits_length (chars : List Byte) : (charBits chars).length = 8 * chars.length := by
  induction chars with
  | nil => rfl
  | cons b bs ih =>
    rw [charBits, List.flatMap_cons, List.length_append, ← charBits, ih, List.length_cons]
    change 8 + _ = _
    omega

theorem charBits_append (as bs : List Byte) : charBits (as ++ bs) = charBits as ++ charBits bs := List.flatMap_append

/-! ### What was sent passes -/

/-- The register fed its own highest place moves up, nothing being inverted. -/
theorem checkShift_own (r : Word16) {k i : Nat} (h : k + i = 15) :
    checkShift (r <<< k) (r.getLsbD i) = r <<< (k + 1) := by
  have top : (r <<< k).getLsbD 15 = r.getLsbD i := by
    have place : 15 - k = i := by omega
    have inside : ¬15 < k := by omega
    rw [BitVec.getLsbD_shiftLeft, place]
    simp [inside]
  rw [checkShift, if_pos top, BitVec.shiftLeft_add]

/-- Fed the places it holds, from the highest, the register empties. -/
theorem foldl_checkShift_own (r : Word16) : ∀ (i k : Nat), k + i = 16 →
    (((List.range i).reverse.map r.getLsbD).foldl checkShift (r <<< k)) = r <<< 16
  | 0, k, h => by
    obtain rfl : k = 16 := by omega
    rfl
  | i + 1, k, h => by
    rw [List.range_succ, List.reverse_append, List.reverse_singleton, List.singleton_append, List.map_cons,
      List.foldl_cons, checkShift_own r (by omega)]
    exact foldl_checkShift_own r i (k + 1) (by omega)

theorem charBits_register (r : Word16) :
    charBits [r.extractLsb' 8 8, r.extractLsb' 0 8] = (List.range 16).reverse.map r.getLsbD := by
  simp [charBits, byteBits, List.range_succ]

theorem checkPasses_sealed (content : List Byte) : checkPasses (sealed content) = true := by
  have fed := foldl_checkShift_own (checkRegister (charBits content)) 16 0 rfl
  rw [← charBits_register, BitVec.shiftLeft_zero] at fed
  rw [checkPasses, sealed, charBits_append, checkRegister, List.foldl_append]
  exact beq_iff_eq.mpr (fed.trans (BitVec.shiftLeft_eq_zero le_rfl))

/-! ### One damaged bit or three: parity -/

/-- Whether an odd number of the lowest `n` places of the register are at one. -/
def oddBelow : Nat → Word16 → Bool
  | 0, _ => false
  | n + 1, r => oddBelow n r ^^ r.getLsbD n

/-- Whether an odd number of places of the register are at one. -/
def odd (r : Word16) : Bool := oddBelow 16 r

theorem oddBelow_xor (n : Nat) (r q : Word16) : oddBelow n (r ^^^ q) = (oddBelow n r ^^ oddBelow n q) := by
  induction n with
  | zero => rfl
  | succ n ih =>
    rw [oddBelow, oddBelow, oddBelow, ih, BitVec.getLsbD_xor, Bool.xor_assoc, Bool.xor_assoc,
      Bool.xor_left_comm (oddBelow n q)]

theorem odd_xor (r q : Word16) : odd (r ^^^ q) = (odd r ^^ odd q) := oddBelow_xor 16 r q

theorem oddBelow_shiftLeft (r : Word16) : ∀ n ≤ 15, oddBelow (n + 1) (r <<< 1) = oddBelow n r
  | 0, _ => by simp [oddBelow]
  | n + 1, h => by
    have inside : n + 1 < 16 := by omega
    rw [oddBelow, oddBelow_shiftLeft r n (by omega), oddBelow, BitVec.getLsbD_shiftLeft]
    simp [inside]

/-- Moved up, the register loses its highest place. -/
theorem odd_shiftLeft (r : Word16) : odd (r <<< 1) = (odd r ^^ r.getLsbD 15) := by
  rw [odd, oddBelow_shiftLeft r 15 le_rfl]
  change oddBelow 15 r = (oddBelow 15 r ^^ r.getLsbD 15 ^^ r.getLsbD 15)
  rw [Bool.xor_assoc, Bool.xor_self, Bool.xor_false]

theorem odd_feedback (b : Bool) : odd (feedback b) = b := by cases b <;> decide

/-- One data bit changes the parity of the register exactly when it is a one. -/
theorem odd_checkShift (r : Word16) (bit : Bool) : odd (checkShift r bit) = (odd r ^^ bit) := by
  rw [checkShift_eq, odd_xor, odd_shiftLeft, odd_feedback]
  cases odd r <;> cases r.getLsbD 15 <;> cases bit <;> rfl

theorem odd_foldl (bits : List Bool) (r : Word16) :
    odd (bits.foldl checkShift r) = (odd r ^^ decide (bits.count true % 2 = 1)) := by
  induction bits generalizing r with
  | nil => simp
  | cons b bits ih =>
    rw [List.foldl_cons, ih, odd_checkShift]
    cases b with
    | false => simp
    | true =>
      rw [List.count_cons_self]
      rcases Nat.mod_two_eq_zero_or_one (bits.count true) with even | odd_ <;> simp [Nat.add_mod, *]

/-! ### Two damaged bits: the register does not return -/

/-- The register moved on by a data bit that differs in nothing. -/
def shifted (r : Word16) : Word16 := checkShift r false

/-- Moved on up to `n` times, the register never takes the value `x`. -/
def avoids (x : Word16) : Nat → Word16 → Bool
  | 0, _ => true
  | n + 1, r => shifted r != x && avoids x n (shifted r)

theorem iterate_ne_of_avoids {x : Word16} : ∀ {n : Nat} {r : Word16}, avoids x n r = true →
    ∀ k < n, shifted^[k + 1] r ≠ x
  | n + 1, r, h, 0, _ => by
    simp only [avoids, Bool.and_eq_true, bne_iff_ne] at h
    exact h.1
  | n + 1, r, h, k + 1, inside => by
    simp only [avoids, Bool.and_eq_true] at h
    rw [Function.iterate_succ_apply]
    exact iterate_ne_of_avoids h.2 k (by omega)

/-- Within a telegram of 46 characters the register does not return to the value that one differing bit gives it. -/
theorem feedback_not_again {k : Nat} (h : k < 368) : shifted^[k + 1] (feedback true) ≠ feedback true :=
  iterate_ne_of_avoids (n := 368) (by decide +kernel) k h

theorem shifted_zero : shifted 0#16 = 0#16 := by decide

theorem shifted_eq_zero {r : Word16} (h : shifted r = 0#16) : r = 0#16 := by
  rw [shifted, checkShift_eq, Bool.xor_false] at h
  have low : (feedback (r.getLsbD 15)).getLsbD 0 = false := by
    have place := congrArg (fun x : Word16 => x.getLsbD 0) h
    simpa using place
  have top : r.getLsbD 15 = false := by
    cases top : r.getLsbD 15 with
    | false => rfl
    | true => rw [top] at low; exact absurd low (by decide)
  apply BitVec.eq_of_getLsbD_eq
  intro i inside
  rw [BitVec.getLsbD_zero]
  rcases Nat.lt_succ_iff_lt_or_eq.mp inside with lower | rfl
  · rw [top] at h
    have place := congrArg (fun x : Word16 => x.getLsbD (i + 1)) h
    have inside' : i + 1 < 16 := by omega
    rw [BitVec.getLsbD_eq_getElem inside]
    simpa [feedback, BitVec.getLsbD_shiftLeft, inside'] using place
  · exact top

theorem iterate_shifted_eq_zero {r : Word16} : ∀ (k : Nat), shifted^[k] r = 0#16 → r = 0#16
  | 0, h => h
  | k + 1, h => shifted_eq_zero (iterate_shifted_eq_zero k (by rwa [Function.iterate_succ_apply] at h))

theorem foldl_of_count_zero : ∀ (bits : List Bool) (r : Word16), bits.count true = 0 →
    bits.foldl checkShift r = shifted^[bits.length] r
  | [], _, _ => rfl
  | true :: bits, _, h => by simp at h
  | false :: bits, r, h => by
    rw [List.foldl_cons, List.length_cons, Function.iterate_succ_apply]
    exact foldl_of_count_zero bits _ (by simpa using h)

/-- A bit that differs, behind some that do not. -/
theorem exists_first_true : ∀ (bits : List Bool), 0 < bits.count true →
    ∃ k rest, bits = List.replicate k false ++ true :: rest
  | [], h => by simp at h
  | true :: bits, _ => ⟨0, bits, rfl⟩
  | false :: bits, h => by
    obtain ⟨k, rest, rfl⟩ := exists_first_true bits (by simpa using h)
    exact ⟨k + 1, rest, rfl⟩

theorem foldl_replicate_false (k : Nat) (r : Word16) :
    (List.replicate k false).foldl checkShift r = shifted^[k] r := by
  have count := foldl_of_count_zero (List.replicate k false) r (by simp [List.count_replicate])
  rwa [List.length_replicate] at count

/-- One to three differing bits of a telegram leave the register other than zero. -/
theorem foldl_ne_zero {bits : List Bool} (length : bits.length ≤ 368) (some_ : 1 ≤ bits.count true)
    (few : bits.count true ≤ 3) : bits.foldl checkShift 0#16 ≠ 0#16 := by
  by_cases two : bits.count true = 2
  · obtain ⟨i, rest, rfl⟩ := exists_first_true bits some_
    have left : rest.count true = 1 := by simpa [List.count_replicate] using two
    obtain ⟨j, tail, rfl⟩ := exists_first_true rest (by omega)
    have none_ : tail.count true = 0 := by simpa [List.count_replicate] using left
    have still : shifted^[i] 0#16 = 0#16 := Function.iterate_fixed shifted_zero i
    have second : ∀ y, checkShift y true = shifted y ^^^ feedback true := fun y => by
      have split := checkShift_xor y 0#16 false true
      rwa [BitVec.xor_zero, Bool.false_xor] at split
    rw [List.foldl_append, foldl_replicate_false, still, List.foldl_cons, List.foldl_append, foldl_replicate_false,
      List.foldl_cons, foldl_of_count_zero tail _ none_, second]
    intro zero
    have same := BitVec.xor_eq_zero_iff.mp (iterate_shifted_eq_zero _ zero)
    rw [← Function.iterate_succ_apply' shifted] at same
    refine feedback_not_again (k := j) ?_ same
    simp only [List.length_append, List.length_replicate, List.length_cons] at length
    omega
  · intro zero
    have parity := odd_foldl bits 0#16
    have odd_ : bits.count true % 2 = 1 := by omega
    rw [zero, decide_eq_true odd_] at parity
    exact absurd parity (by decide)

/-- Settles O42: an undamaged telegram empties the register, and the damaged bits alone decide what is left. -/
theorem checkDetectsThreeBits : Obligations.CheckDetectsThreeBits := by
  refine fun content short => ⟨checkPasses_sealed content, fun read length some_ few => ?_⟩
  have sent := checkPasses_sealed content
  have sentLength : (sealed content).length = content.length + 2 := by simp [sealed, checkChars]
  have same : (charBits (sealed content)).length = (charBits read).length := by
    rw [charBits_length, charBits_length, sentLength, length]
  have differ := foldl_checkShift_xor _ _ 0xFFFF#16 0xFFFF#16 same
  rw [BitVec.xor_self] at differ
  have left := foldl_ne_zero (bits := List.zipWith xor (charBits (sealed content)) (charBits read)) (by
    rw [List.length_zipWith, same, min_self, charBits_length, length]
    omega) some_ few
  rw [differ] at left
  simp only [checkPasses, beq_iff_eq, checkRegister, beq_eq_false_iff_ne] at sent ⊢
  intro passes
  rw [sent, passes] at left
  exact left (BitVec.xor_self)

/-! ### A digest read back (R148) -/

/-- Two bytes of a word, the more significant first, are the word again. -/
theorem pairBytes_append (n : Nat) : BitVec.ofNat 8 (n / 256) ++ BitVec.ofNat 8 n = BitVec.ofNat 16 n := by
  apply BitVec.eq_of_toNat_eq
  have low : (BitVec.ofNat 8 n).toNat < 2 ^ 8 := BitVec.isLt _
  rw [BitVec.toNat_append, ← Nat.shiftLeft_add_eq_or_of_lt low, Nat.shiftLeft_eq]
  simp only [BitVec.toNat_ofNat]
  omega

/-- A signed quantity of a digest read back from its two bytes. -/
theorem signedPair_signedBytes {z : Int} (low : -4079 ≤ z) (high : z ≤ 4079) :
    signedPair (BitVec.ofNat 8 ((BitVec.ofInt 16 z).toNat / 256)) (BitVec.ofNat 8 (BitVec.ofInt 16 z).toNat) = z := by
  rw [signedPair, pairBytes_append, BitVec.ofNat_toNat, BitVec.setWidth_eq, BitVec.toInt_ofInt]
  exact Int.bmod_eq_of_le (by omega) (by omega)

theorem byteAt_asByte {n : Nat} (h : n < 256) : (asByte n).toNat = n := by
  rw [asByte, BitVec.toNat_ofNat, Nat.mod_eq_of_lt h]

/-- The flag byte of a digest, bit by bit. -/
theorem digestFlags_getLsbD (a b c d : Bool) :
    let flags := asByte (bitAt 7 a + bitAt 6 b + bitAt 5 c + bitAt 4 d)
    flags.getLsbD 7 = a ∧ flags.getLsbD 6 = b ∧ flags.getLsbD 5 = c ∧ flags.getLsbD 4 = d := by
  revert a b c d
  decide

theorem map_toNat_asByte {l : List Nat} (h : ∀ n ∈ l, n < 256) : (l.map asByte).map BitVec.toNat = l := by
  rw [List.map_map]
  exact (List.map_congr_left fun n mem => byteAt_asByte (h n mem)).trans (List.map_id _)

/-- Settles O43: byte by byte, the counts of byte 6 cutting zones from holders. -/
theorem digestReadsBack : Obligations.DigestReadsBack := by
  intro x restart zones holders fewZones fewHolders smallZones smallHolders low high
  obtain ⟨flag7, flag6, flag5, flag4⟩ := digestFlags_getLsbD restart x.fanProven x.effortValid x.hunting
  have counts : byteAt (digestBody x restart zones holders) 6 = zones.length * 16 + holders.length :=
    byteAt_asByte (by omega)
  have zoneCount : (zones.length * 16 + holders.length) / 16 = zones.length := by omega
  have holderCount : (zones.length * 16 + holders.length) % 16 = holders.length := by omega
  have behind : (digestBody x restart zones holders).drop 6 = zones.map asByte ++ holders.map asByte := rfl
  have behindZones : (digestBody x restart zones holders).drop (6 + zones.length) = holders.map asByte := by
    rw [← List.drop_drop, behind, List.drop_left' (by simp)]
  refine ⟨?_, ?_⟩
  · have zonesBack : ((zones.map asByte ++ holders.map asByte).take zones.length).map BitVec.toNat = zones := by
      rw [List.take_left' (by simp), map_toNat_asByte smallZones]
    have holdersBack : ((holders.map asByte).take holders.length).map BitVec.toNat = holders := by
      rw [List.take_of_length_le (by simp), map_toNat_asByte smallHolders]
    have effort := signedPair_signedBytes low high
    have flags : (digestBody x restart zones holders).getD 2 0#8
        = asByte (bitAt 7 restart + bitAt 6 x.fanProven + bitAt 5 x.effortValid + bitAt 4 x.hunting) := rfl
    have upper : (digestBody x restart zones holders).getD 3 0#8
        = BitVec.ofNat 8 ((BitVec.ofInt 16 x.effort).toNat / 256) := rfl
    have lower : (digestBody x restart zones holders).getD 4 0#8 = BitVec.ofNat 8 (BitVec.ofInt 16 x.effort).toNat := rfl
    simp only [readDigest, counts, zoneCount, holderCount, behind, behindZones, zonesBack, holdersBack, flags, upper,
      lower, flag7, flag6, flag5, flag4, effort]
    rfl
  · simp [digestBody, signedBytes, pairBytes]
    omega

end Sys2Proof.Machine
end

/-! The line controller (chapter 8): the line followed (O36), access to it (O37), an attempt that fails (O39), one that is
sent (O40, O41), the outcome of a claim held (O52), and the events that the state leaves no room for (O44). -/

section
namespace Sys2Proof.Machine

/-! ### Commands that change the line controller alone -/

theorem onlyLine_of_line (f : Line → Line) (s : State) : OnlyLine s (s.modLine f).driveLines :=
  { KeepsCore.modLine f s with findings := rfl, flags := rfl, table := rfl }

theorem onlyLine_of_eq {s t : State} (line : t = s.modLine fun _ => t.line) : OnlyLine s t.driveLines := by
  rw [line]
  exact onlyLine_of_line _ s

theorem access_modLine {s : State} (runs : s.lineRuns = true) (f : Line → Line) :
    (s.modLine f).access = s.modLine fun l => (f l).beginBackoff := if_pos runs

/-- A count is not begun where no eligible telegram waits (R141). -/
theorem beginBackoff_of_none_eligible {l : Line} (h : ∀ q ∈ l.queue, l.eligible q.telegram = false) :
    l.beginBackoff = l := by
  have none_ : (l.queue.any fun q => l.eligible q.telegram) = false := List.any_eq_false.mpr fun q mem => by simp [h q mem]
  simp [Line.beginBackoff, none_]

/-- A count below W is begun on an idle line where an eligible telegram waits (R141). -/
theorem beginBackoff_of_eligible {l : Line} (idle : l.idle = true) (free : l.backoff = none)
    (quiet : l.transmission = none) (h : ∃ q ∈ l.queue, l.eligible q.telegram = true) (window : 0 < l.window) :
    ∃ B, B < l.window ∧ l.beginBackoff = { l with backoff := some B, draws := l.draws + 1 } := by
  have some_ : (l.queue.any fun q => l.eligible q.telegram) = true := List.any_eq_true.mpr h
  exact ⟨Config.backoffDraw l.draws % l.window, Nat.mod_lt _ window, by
    simp [Line.beginBackoff, idle, free, quiet, some_]⟩

/-- Settles O36: each event of the line, with what it leaves of the line controller. -/
theorem lineFollowed : Obligations.LineFollowed := by
  refine ⟨fun s runs busy tracks free quiet window => ?_, fun s runs => ⟨fun due => ?_, fun counting => ?_,
    fun busy searching => ?_⟩, fun s n runs quiet follows => ?_, fun s o rest runs pauses => ?_⟩
  · have answer : exec .lineIdle s = finish ((s.modLine fun l => { l with idle := true }).access) :=
      if_pos (by rcases tracks with h | h <;> simp [runs, busy, h])
    rw [access_modLine runs] at answer
    refine ⟨_, answer, onlyLine_of_line _ s, fun none_ => ?_, fun some_ => ?_⟩
    · exact beginBackoff_of_none_eligible (l := { s.line with idle := true }) none_
    · exact beginBackoff_of_eligible (l := { s.line with idle := true }) rfl free quiet some_ window
  · refine ⟨_, if_pos ?_, onlyLine_of_line Line.follow s, rfl⟩
    rcases due with h | h <;> simp [runs, Line.startBitDue, h]
  · exact ⟨_, if_pos (by simp [runs, counting]), onlyLine_of_line Line.follow s, rfl⟩
  · exact if_neg (by simp [Line.startBitDue, busy, searching])
  · exact ⟨_, if_pos (by simp [runs, Line.following, quiet, follows]), onlyLine_of_line _ s, rfl⟩
  · have answer : exec .repeatPauseEnd s = finish ((s.modLine fun l => { l with pauses := l.pauses.tail }).access) :=
      if_pos (by simp [runs, pauses])
    rw [access_modLine runs] at answer
    refine ⟨_, answer, onlyLine_of_line _ s, ?_⟩
    change Line.beginBackoff { s.line with pauses := s.line.pauses.tail } = _
    rw [pauses]
    rfl

/-! ### The choice at the end of a count (R141, R142, R150) -/

section
variable {s : State} {q : Queued} {rest : List Queued}

theorem choose_of_none_eligible {l : List Queued} (h : ∀ q ∈ l, s.line.eligible q.telegram = false) :
    s.choose l = ([], none) := by
  induction l with
  | nil => rfl
  | cons q l ih =>
    rw [State.choose, if_neg (by simp [h q (List.mem_cons_self ..)])]
    exact ih fun p mem => h p (List.mem_cons_of_mem _ mem)

/-- Telegrams that are not eligible are passed over. -/
theorem choose_append {l : List Queued} (h : ∀ q ∈ l, s.line.eligible q.telegram = false) (m : List Queued) :
    s.choose (l ++ m) = s.choose m := by
  induction l with
  | nil => rfl
  | cons q l ih =>
    rw [List.cons_append, State.choose, if_neg (by simp [h q (List.mem_cons_self ..)])]
    exact ih fun p mem => h p (List.mem_cons_of_mem _ mem)

theorem choose_of_gather {tr : Transmission} (eligible : s.line.eligible q.telegram = true)
    (gathered : s.gather q.telegram = some tr) : s.choose (q :: rest) = ([], some tr) := by
  simp only [State.choose, eligible, if_true, gathered]

theorem choose_of_gone (eligible : s.line.eligible q.telegram = true) (gone : s.gather q.telegram = none) :
    s.choose (q :: rest) = (q.telegram :: (s.choose rest).1, (s.choose rest).2) := by
  simp only [State.choose, eligible, if_true, gone]

end

/-- The line controller after a count has ended: the telegrams with nothing to gather from dropped, the attempt begun. -/
def Line.counted (gone : List Outgoing) (attempt : Option Transmission) (l : Line) : Line :=
  let dropped := gone.foldl (fun l o => l.leave o) { l with backoff := none }
  attempt.elim dropped fun t => dropped.begin t

theorem execBackoffEnd_eq {s : State} (runs : s.lineRuns = true) (counting : s.line.backoff.isSome = true) :
    exec .backoffEnd s =
      finish (s.modLine (.counted (s.choose s.line.queue).1 (s.choose s.line.queue).2)) := by
  have answer : exec .backoffEnd s = _ := if_pos (by simp [runs, counting])
  rw [answer]
  cases s.choose s.line.queue with
  | mk gone attempt => cases attempt <;> rfl

/-- What a telegram that is dropped at the end of a count leaves of the line, whatever else is dropped or begun. -/
theorem counted_of_gone (o : Outgoing) (gone : List Outgoing) (attempt : Option Transmission) (l : Line) :
    (l.counted (o :: gone) attempt).holds o = false ∧ (l.counted (o :: gone) attempt).window = 8
      ∧ (l.counted (o :: gone) attempt).backoff = none := by
  have fold : ∀ (gone : List Outgoing) (m : Line), m.holds o = false ∧ m.window = 8 ∧ m.backoff = none →
      (gone.foldl (fun l o => l.leave o) m).holds o = false ∧ (gone.foldl (fun l o => l.leave o) m).window = 8
        ∧ (gone.foldl (fun l o => l.leave o) m).backoff = none := by
    intro gone
    induction gone with
    | nil => exact fun _ h => h
    | cons p gone ih =>
      rintro m ⟨absent, -, free⟩
      exact ih _ ⟨by rw [Line.holds_leave, absent, Bool.false_and], rfl, free⟩
  obtain ⟨absent, window, free⟩ := fold gone (({ l with backoff := none } : Line).leave o)
    ⟨by rw [Line.holds_leave, bne_self_eq_false, Bool.and_false], rfl, rfl⟩
  cases attempt with
  | none => exact ⟨absent, window, free⟩
  | some t => exact ⟨absent, window, free⟩

/-- A telegram's place leaves the queue, where it stands there once. -/
theorem filter_queue_of_nodup {pre post : List Queued} {q : Queued}
    (nodup : ((pre ++ q :: post).map Queued.telegram).Nodup) :
    ((pre ++ q :: post).filter fun p => p.telegram != q.telegram) = pre ++ post := by
  rw [List.map_append, List.map_cons, List.nodup_middle, List.nodup_cons, ← List.map_append] at nodup
  have others : ∀ p ∈ pre ++ post, (p.telegram != q.telegram) = true := fun p mem => by
    rw [bne_iff_ne]
    exact fun same => nodup.1 (same ▸ List.mem_map_of_mem mem)
  rw [List.filter_append, List.filter_cons_of_neg (by simp), ← List.filter_append]
  exact List.filter_eq_self.mpr others

/-- Settles O37: the choice passes over what is not eligible and drops what has nothing to gather from. -/
theorem backoffEnds : Obligations.BackoffEnds := by
  refine ⟨fun s pre post q tr runs counting queue before eligible gathered => ?_,
    fun s pre post q k runs counting queue nodup before eligible finding gone => ?_,
    fun s runs counting none_ => ?_⟩
  · have chosen : s.choose s.line.queue = ([], some tr) := by
      rw [queue, choose_append before, choose_of_gather eligible gathered]
    refine ⟨_, execBackoffEnd_eq runs counting, onlyLine_of_line _ s, ?_⟩
    rw [chosen]
    rfl
  · have nothing : s.gather q.telegram = none := by
      rw [finding]
      simp [State.gather, gone]
    have chosen : s.choose s.line.queue = (.finding k :: (s.choose post).1, (s.choose post).2) := by
      rw [queue, choose_append before, choose_of_gone eligible nothing, finding]
    have left : (s.line.queue.filter fun p => p.telegram != .finding k) = pre ++ post := by
      rw [queue] at nodup ⊢
      rw [← finding]
      exact filter_queue_of_nodup nodup
    have dropped : ({ s.line with backoff := none } : Line).leave (.finding k) = { s.line with
        queue := pre ++ post, backoff := none, window := 8
        pauses := s.line.pauses.filter fun o => o != .finding k } := by
      rw [← left]
      rfl
    obtain ⟨absent, window, free⟩ := counted_of_gone (.finding k) (s.choose post).1 (s.choose post).2 s.line
    refine ⟨_, execBackoffEnd_eq runs counting, onlyLine_of_line _ s, ?_⟩
    rw [chosen]
    refine ⟨absent, window, free, fun none_ => ?_, fun n ns tr post_ eligible' gathered => ?_⟩
    · rw [choose_of_none_eligible none_]
      exact dropped
    · have next : s.choose post = ([], some tr) := by rw [post_, choose_of_gather eligible' gathered]
      rw [next]
      exact ⟨rfl, left, rfl⟩
  · refine ⟨_, execBackoffEnd_eq runs counting, onlyLine_of_line _ s, ?_⟩
    rw [choose_of_none_eligible none_]
    rfl

/-! ### An attempt that fails (R143 to R146) -/

section
variable {pre post : List Queued} {o : Outgoing} {n : Nat} {l : Line}

/-- An attempt counted against a telegram that stands in the queue once (R146). -/
theorem countAttempt_queue (queue : l.queue = pre ++ { telegram := o, attempts := n } :: post)
    (nodup : (l.queue.map Queued.telegram).Nodup) :
    l.countAttempt o = { l with queue := pre ++ { telegram := o, attempts := n + 1 } :: post } := by
  rw [queue, List.map_append, List.map_cons, List.nodup_middle, List.nodup_cons, ← List.map_append] at nodup
  have others : ∀ q ∈ pre ++ post, (if q.telegram == o then { q with attempts := q.attempts + 1 } else q) = q :=
    fun q mem => by
      have other : q.telegram ≠ o := fun same => nodup.1 (List.mem_map.mpr ⟨q, mem, same⟩)
      simp [other]
  have kept : ∀ m : List Queued, (∀ q ∈ m, q ∈ pre ++ post) →
      (m.map fun q => if q.telegram == o then { q with attempts := q.attempts + 1 } else q) = m := fun m inside =>
    (List.map_congr_left fun q mem => others q (inside q mem)).trans (List.map_id _)
  rw [Line.countAttempt, queue, List.map_append, List.map_cons, kept pre fun q => List.mem_append_left _,
    kept post fun q => List.mem_append_right _, if_pos (by simp)]

theorem attemptsOf_queue (queue : l.queue = pre ++ { telegram := o, attempts := n } :: post)
    (nodup : (l.queue.map Queued.telegram).Nodup) : l.attemptsOf o = n := by
  rw [queue, List.map_append, List.map_cons, List.nodup_middle, List.nodup_cons, List.mem_append] at nodup
  have before : pre.find? (fun q => q.telegram == o) = none := by
    rw [List.find?_eq_none]
    intro q mem same
    have same : q.telegram = o := by simpa using same
    exact nodup.1 (.inl (List.mem_map.mpr ⟨q, mem, same⟩))
  simp [Line.attemptsOf, queue, List.find?_append, before]

/-- One attempt counted, or the sixteenth: the telegram leaves and TELEGRAM_DISCARDED is set (R146). -/
theorem countOrSpend_eq {s : State} (queue : s.line.queue = pre ++ { telegram := o, attempts := n } :: post)
    (nodup : (s.line.queue.map Queued.telegram).Nodup) :
    s.countOrSpend o =
      if 16 ≤ n + 1 then
        (s.modLine fun l => { l with
          queue := pre ++ post, window := 8, pauses := l.pauses.filter fun p => p != o }).flagTelegramDiscarded
      else s.modLine fun l => { l with queue := pre ++ { telegram := o, attempts := n + 1 } :: post } := by
  have counted := countAttempt_queue queue nodup
  have again : ((pre ++ { telegram := o, attempts := n + 1 } :: post).map Queued.telegram).Nodup := by
    rw [queue] at nodup
    simpa using nodup
  have attempts : (s.line.countAttempt o).attemptsOf o = n + 1 := by
    rw [counted]
    exact attemptsOf_queue (l := { s.line with queue := _ }) rfl again
  have left : (s.line.countAttempt o).leave o = { s.line with
      queue := pre ++ post, window := 8, pauses := s.line.pauses.filter fun p => p != o } := by
    rw [counted, Line.leave]
    exact congrArg (fun q => { s.line with
      queue := q, window := 8, pauses := s.line.pauses.filter fun p => p != o }) (filter_queue_of_nodup again)
  have unfolded : s.countOrSpend o = if 16 ≤ (s.line.countAttempt o).attemptsOf o then
      ((s.modLine (.countAttempt o)).modLine (.leave o)).flagTelegramDiscarded else s.modLine (.countAttempt o) := rfl
  rw [unfolded]
  by_cases spent : 16 ≤ n + 1
  · rw [if_pos (attempts.symm ▸ spent), if_pos spent]
    change State.flagTelegramDiscarded { s with line := (s.line.countAttempt o).leave o } = _
    rw [left]
    rfl
  · rw [if_neg (attempts.symm ▸ spent), if_neg spent]
    change { s with line := s.line.countAttempt o } = _
    rw [counted]
    rfl

end

/-- The window of a telegram that waits, a claim aside: a REPEAT pauses it and counts (R145, R146). -/
theorem queuedWindow_repeat {t : Transmission} (notClaim : ∀ p, t.telegram ≠ .claim p) (s : State) :
    s.queuedWindow t .repeatMark = (s.modLine (.startPause t.telegram)).countOrSpend t.telegram := by
  unfold State.queuedWindow
  split
  · rename_i p same
    exact absurd same (notClaim p)
  · rfl

/-- Without a REPEAT it is sent (R145). -/
theorem queuedWindow_sent {t : Transmission} {e : AttemptEnd} (notClaim : ∀ p, t.telegram ≠ .claim p)
    (marked : e ≠ .repeatMark) (s : State) : s.queuedWindow t e = s.sent t := by
  unfold State.queuedWindow
  split
  · rename_i p same
    exact absurd same (notClaim p)
  · exact if_neg (by simpa using marked)

theorem attemptLost_queued {t : Transmission} (place : t.inQueue = true) (notClaim : ∀ p, t.telegram ≠ .claim p)
    (s : State) : s.attemptLost t = (s.modLine Line.doubleWindow).countOrSpend t.telegram := by
  unfold State.attemptLost
  rw [place]
  split
  · rename_i p _ same
    exact absurd same (notClaim p)
  · rfl
  · contradiction
  · contradiction

theorem execAttemptOutcome_eq {s : State} {t : Transmission} (runs : s.lineRuns = true)
    (sends : s.line.transmission = some t) (repeatPlace stalePlace concurPlace : Bool) :
    exec (.attemptOutcome repeatPlace stalePlace concurPlace) s =
      finish (if t.inQueue then
          (s.modLine (.endAttempt .afterWindow)).queuedWindow t (readWindow repeatPlace stalePlace concurPlace)
        else (s.modLine (.endAttempt .afterWindow)).detachedWindow t (readWindow repeatPlace stalePlace concurPlace)) := by
  simp only [exec, execAttemptOutcome, runs, sends]

theorem execContentionLoss_eq {s : State} {t : Transmission} (runs : s.lineRuns = true)
    (sends : s.line.transmission = some t) :
    exec .contentionLoss s = finish ((s.modLine (.endAttempt (.telegram none))).attemptLost t) := by
  simp only [exec, execContentionLoss, runs, sends]

theorem execLineFaultOnTransmit_eq {s : State} {t : Transmission} (runs : s.lineRuns = true)
    (sends : s.line.transmission = some t) :
    exec .lineFaultOnTransmit s = finish ((s.modLine (.endAttempt .searching)).attemptLost t) := by
  simp only [exec, execLineFaultOnTransmit, runs, sends]

/-- Settles O39: one attempt counted, or the sixteenth spent, after the window has doubled or the pause begun. -/
theorem attemptFails : Obligations.AttemptFails := by
  refine ⟨fun s tr pre post n runs sends place notClaim queue nodup c follows which => ?_,
    fun s tr pre post n stalePlace concurPlace runs sends place notClaim queue nodup => ?_⟩
  · have lost : exec c s = finish (((s.modLine (.endAttempt follows)).modLine Line.doubleWindow).countOrSpend
        tr.telegram) := by
      rw [← attemptLost_queued place notClaim]
      rcases which with ⟨rfl, rfl⟩ | ⟨rfl, rfl⟩
      · exact execContentionLoss_eq runs sends
      · exact execLineFaultOnTransmit_eq runs sends
    rw [countOrSpend_eq (s := (s.modLine (.endAttempt follows)).modLine Line.doubleWindow) queue nodup] at lost
    by_cases spent : 16 ≤ n + 1
    · rw [if_pos spent] at lost
      exact ⟨_, lost, ⟨rfl, rfl, rfl, rfl, rfl, rfl⟩, rfl, rfl, fun few => absurd spent (by omega), fun _ => ⟨rfl, rfl⟩⟩
    · rw [if_neg spent] at lost
      exact ⟨_, lost, ⟨rfl, rfl, rfl, rfl, rfl, rfl⟩, rfl, rfl, fun _ => ⟨rfl, rfl⟩, fun many => absurd many spent⟩
  · have repeated := execAttemptOutcome_eq runs sends true stalePlace concurPlace
    rw [if_pos place] at repeated
    rw [show readWindow true stalePlace concurPlace = .repeatMark from rfl, queuedWindow_repeat notClaim,
      countOrSpend_eq (s := (s.modLine (.endAttempt .afterWindow)).modLine (.startPause tr.telegram)) queue nodup]
      at repeated
    by_cases spent : 16 ≤ n + 1
    · rw [if_pos spent] at repeated
      refine ⟨_, repeated, ⟨rfl, rfl, rfl, rfl, rfl, rfl⟩, rfl, rfl, fun few => absurd spent (by omega), fun _ => ⟨rfl, ?_⟩⟩
      have paused : (s.line.pauses ++ [tr.telegram]).filter (fun o => o != tr.telegram)
          = s.line.pauses.filter fun o => o != tr.telegram := by simp
      rw [← paused]
      rfl
    · rw [if_neg spent] at repeated
      exact ⟨_, repeated, ⟨rfl, rfl, rfl, rfl, rfl, rfl⟩, rfl, rfl, fun _ => ⟨rfl, rfl⟩, fun many => absurd many spent⟩

/-- Settles O52: during an evaluation the end of a claim's attempt is held. -/
theorem claimOutcomeHeld : Obligations.ClaimOutcomeHeld := by
  intro s tr p a b d runs evaluating sends place claim
  have outcome := execAttemptOutcome_eq runs sends a b d
  have lost := execContentionLoss_eq runs sends
  rw [if_pos place] at outcome
  have held : ∀ (e : AttemptEnd) (u : State), u.evaluating = true →
      u.claimEnded p e = u.modLine fun l => { l with held := l.held ++ [{ peer := p, outcome := e }] } :=
    fun _ _ h => if_pos h
  refine ⟨?_, ?_⟩
  · rw [State.queuedWindow, claim] at outcome
    cases a with
    | true =>
      exact ⟨_, outcome.trans (congrArg finish (held _ ((s.modLine _).modLine _) evaluating)),
        ⟨⟨rfl, rfl, rfl, rfl, rfl, rfl⟩, ⟨rfl, rfl⟩, rfl⟩, rfl⟩
    | false =>
      have unpaused : (if readWindow false b d == .repeatMark then
          (s.modLine (.endAttempt .afterWindow)).modLine (.startPause (.claim p))
          else s.modLine (.endAttempt .afterWindow)) = s.modLine (.endAttempt .afterWindow) := by
        cases b <;> cases d <;> rfl
      refine ⟨_, outcome.trans (congrArg finish ((congrArg (State.claimEnded p _) unpaused).trans
        (held _ (s.modLine _) evaluating))), ⟨⟨rfl, rfl, rfl, rfl, rfl, rfl⟩, ⟨rfl, rfl⟩, rfl⟩, rfl⟩
  · rw [State.attemptLost, place, claim] at lost
    exact ⟨_, lost.trans (congrArg finish (held _ (s.modLine _) evaluating)),
      ⟨⟨rfl, rfl, rfl, rfl, rfl, rfl⟩, ⟨rfl, rfl⟩, rfl⟩, rfl⟩

/-! ### The queueing of finding telegrams (R163) -/

/-- Announcing changes the transmit queue alone. -/
theorem announceAll_eq (records : List Finding) (l : Line) :
    records.foldl Line.announce l = { l with queue := (records.foldl Line.announce l).queue } := by
  induction records generalizing l with
  | nil => rfl
  | cons r records ih =>
    rw [List.foldl_cons]
    refine (ih (l.announce r)).trans ?_
    unfold Line.announce
    split <;> rfl

/-- A record that waits for its telegram (R163). -/
def Finding.untoldIn (queue : List Queued) (f : Finding) : Bool :=
  f.holder == .self && !f.announced && !(queue.any fun q => q.telegram == .finding f.key)

theorem findingsQueued_iff {findings : List Finding} {before after : List Queued} :
    FindingsQueued findings before after ↔ after = before ++ ((findings.filter (Finding.untoldIn before)).take
      (4 - before.countP fun q => q.telegram.isFinding)).map fun f => { telegram := .finding f.key, attempts := 0 } :=
  Iff.rfl

/-- The records announced one by one: in list order, until four finding telegrams stand. -/
theorem announceAll_queued {records : List Finding} (keys : (records.map Finding.key).Nodup) (l : Line) :
    FindingsQueued records l.queue (records.foldl Line.announce l).queue := by
  induction records generalizing l with
  | nil => simp [findingsQueued_iff]
  | cons r records ih =>
    rw [List.map_cons, List.nodup_cons] at keys
    have rest := ih keys.2 (l.announce r)
    rw [List.foldl_cons]
    rw [findingsQueued_iff] at rest ⊢
    by_cases waits : r.untoldIn l.queue = true
    · by_cases room : l.queue.countP (fun q => q.telegram.isFinding) < 4
      · have taken : (l.announce r).queue = l.queue ++ [{ telegram := .finding r.key, attempts := 0 }] := by
          rw [Line.announce, if_pos]
          · rfl
          · rw [Bool.and_eq_true]
            exact ⟨waits, decide_eq_true room⟩
        have others : records.filter (Finding.untoldIn (l.announce r).queue)
            = records.filter (Finding.untoldIn l.queue) := by
          refine List.filter_congr fun f mem => ?_
          have other : (Outgoing.finding r.key == .finding f.key) = false :=
            beq_false_of_ne fun same => keys.1 (Outgoing.finding.inj same ▸ List.mem_map_of_mem mem)
          simp [Finding.untoldIn, taken, other]
        have count : (l.announce r).queue.countP (fun q => q.telegram.isFinding)
            = l.queue.countP (fun q => q.telegram.isFinding) + 1 := by
          rw [taken, List.countP_append]
          rfl
        obtain ⟨left, bound⟩ : ∃ left, 4 - l.queue.countP (fun q => q.telegram.isFinding) = left + 1 :=
          ⟨3 - l.queue.countP (fun q => q.telegram.isFinding), by omega⟩
        have bound' : 4 - (l.queue.countP (fun q => q.telegram.isFinding) + 1) = left := by omega
        simp only [others, count] at rest
        rw [rest, taken, List.filter_cons_of_pos waits, bound, bound', List.take_succ_cons, List.map_cons,
          List.append_assoc, List.singleton_append]
      · have kept : l.announce r = l := by
          rw [Line.announce, if_neg]
          simp [Line.findingCount, room]
        have full : 4 - l.queue.countP (fun q => q.telegram.isFinding) = 0 := by omega
        simp only [kept, full, List.take_zero, List.map_nil] at rest ⊢
        exact rest
    · have kept : l.announce r = l := by
        rw [Line.announce, if_neg]
        intro h
        rw [Bool.and_eq_true] at h
        exact waits h.1
      rw [kept] at rest ⊢
      rw [List.filter_cons_of_neg waits]
      exact rest

section
variable {findings : List Finding} {before after : List Queued}

/-- What an occasion of R163 adds to the queue are finding telegrams of records that wait to be told. -/
theorem mem_of_findingsQueued (h : FindingsQueued findings before after) {q : Queued} (mem : q ∈ after) :
    q ∈ before ∨ ∃ f ∈ findings, f.holder = .self ∧ f.announced = false ∧ q = { telegram := .finding f.key, attempts := 0 } := by
  rw [findingsQueued_iff.mp h, List.mem_append, List.mem_map] at mem
  refine mem.imp id fun ⟨f, taken, same⟩ => ?_
  have inside := List.mem_filter.mp (List.mem_of_mem_take taken)
  simp only [Finding.untoldIn, Bool.and_eq_true, beq_iff_eq, Bool.not_eq_true'] at inside
  exact ⟨f, inside.1, inside.2.1.1, inside.2.1.2, same.symm⟩

theorem findingsQueued_subset (h : FindingsQueued findings before after) {q : Queued} (mem : q ∈ before) : q ∈ after := by
  rw [h]
  exact List.mem_append_left _ mem

/-- A record that waits to be told has its telegram, unless four stand. -/
theorem findingsQueued_tells (h : FindingsQueued findings before after)
    (room : after.countP (fun q => q.telegram.isFinding) < 4) {f : Finding} (mem : f ∈ findings) (self : f.holder = .self)
    (untold : f.announced = false) : ∃ q ∈ after, q.telegram = .finding f.key := by
  by_cases stands : ∃ q ∈ before, q.telegram = .finding f.key
  · obtain ⟨q, qmem, same⟩ := stands
    exact ⟨q, findingsQueued_subset h qmem, same⟩
  · have absent : (before.any fun q => q.telegram == .finding f.key) = false := by
      rw [List.any_eq_false]
      exact fun q qmem same => stands ⟨q, qmem, by simpa using same⟩
    rw [findingsQueued_iff] at h
    generalize waiting : findings.filter (Finding.untoldIn before) = w at h
    have fmem : f ∈ w := by
      rw [← waiting, List.mem_filter]
      exact ⟨mem, by simp only [Finding.untoldIn, self, untold, absent]; rfl⟩
    have all : ((w.take (4 - before.countP fun q => q.telegram.isFinding)).map fun f =>
        ({ telegram := .finding f.key, attempts := 0 } : Queued)).countP (fun q => q.telegram.isFinding)
        = (w.take (4 - before.countP fun q => q.telegram.isFinding)).length := by
      rw [List.countP_map, List.countP_eq_length]
      exact fun _ _ => rfl
    rw [h, List.countP_append, all, List.length_take] at room
    have whole : w.take (4 - before.countP fun q => q.telegram.isFinding) = w :=
      List.take_of_length_le (by omega)
    refine ⟨{ telegram := .finding f.key, attempts := 0 }, ?_, rfl⟩
    rw [h, whole]
    exact List.mem_append_right _ (List.mem_map_of_mem fmem)

end

/-- The finding telegrams queued, the rest of the line as it was. -/
theorem queueFindings_eq (s : State) (keys : (s.report.findings.map Finding.key).Nodup) :
    ∃ after, FindingsQueued s.report.findings s.line.queue after ∧
      s.queueFindings = s.modLine fun l => { l with queue := after } := by
  refine ⟨_, announceAll_queued keys s.line, ?_⟩
  change { s with line := s.report.findings.foldl Line.announce s.line } = _
  rw [announceAll_eq]
  rfl

/-! ### An attempt that is sent (R144, R145), and one whose telegram has lost its place -/

theorem readWindow_ne_repeat (b d : Bool) : readWindow false b d ≠ .repeatMark := by
  cases b <;> cases d <;> decide

/-- Settles O40: what is sent leaves the queue; what has lost its place leaves no trace there. -/
theorem digestOrReplySent : Obligations.DigestOrReplySent := by
  refine ⟨fun s tr b d runs sends place kind => ?_, fun s tr runs sends lost => ⟨fun digest b d => ?_,
    fun ⟨p, claim⟩ a b d => ?_, fun ⟨k, finding⟩ keys b d => ?_, fun withdrawn => ?_⟩⟩
  · have notClaim : ∀ p, tr.telegram ≠ .claim p := by
      rintro p same
      rw [same] at kind
      exact kind.elim nofun (by simp [Outgoing.isReply])
    have answer := execAttemptOutcome_eq runs sends false b d
    rw [if_pos place, queuedWindow_sent notClaim (readWindow_ne_repeat b d)] at answer
    refine ⟨_, answer, ?_⟩
    obtain ⟨telegram, chars, restartFlag, status, inQueue⟩ := tr
    dsimp only at kind
    rcases kind with rfl | reply
    · refine ⟨onlyLine_of_eq rfl, ?_⟩
      rw [show (restartFlag && Outgoing.digest == .digest) = restartFlag by simp]
      rfl
    · cases telegram with
      | reply terminal what start flags =>
        refine ⟨onlyLine_of_eq rfl, ?_⟩
        rw [show (s.line.restartPending && !(restartFlag && Outgoing.reply terminal what start flags == .digest))
          = s.line.restartPending by simp]
        rfl
      | digest => cases reply
      | claim p => cases reply
      | finding k => cases reply
  · have sent := execAttemptOutcome_eq runs sends false b d
    have again := execAttemptOutcome_eq runs sends true b d
    have contention := execContentionLoss_eq runs sends
    rw [if_neg (by simp [lost]), State.detachedWindow, digest] at sent again
    rw [State.attemptLost, lost, digest] at contention
    dsimp only at sent
    rw [if_neg (by simpa using readWindow_ne_repeat b d)] at sent
    exact ⟨⟨_, sent, onlyLine_of_eq rfl, rfl⟩, ⟨_, again, onlyLine_of_eq rfl, rfl⟩,
      ⟨_, contention, onlyLine_of_eq rfl, rfl⟩⟩
  · have answer := execAttemptOutcome_eq runs sends a b d
    rw [if_neg (by simp [lost]), State.detachedWindow, claim] at answer
    exact ⟨_, answer, onlyLine_of_eq rfl, rfl⟩
  · have sent := execAttemptOutcome_eq runs sends false b d
    have again := execAttemptOutcome_eq runs sends true b d
    rw [if_neg (by simp [lost]), State.detachedWindow, finding] at sent again
    dsimp only at sent
    rw [if_neg (by simpa using readWindow_ne_repeat b d)] at sent
    refine ⟨⟨_, again, onlyLine_of_eq rfl, rfl⟩, ?_⟩
    obtain ⟨after, queued, line⟩ := queueFindings_eq
      ((s.modLine (.endAttempt .afterWindow)).modLine fun l => { l with window := 8 }) keys
    rw [line] at sent
    exact ⟨_, after, sent, onlyLine_of_eq rfl, queued, rfl⟩
  · have answer := execContentionLoss_eq runs sends
    refine ⟨_, answer, ?_⟩
    rcases withdrawn with ⟨p, claim⟩ | ⟨k, finding⟩
    · rw [State.attemptLost, lost, claim]
      exact ⟨onlyLine_of_eq rfl, rfl⟩
    · rw [State.attemptLost, lost, finding]
      exact ⟨onlyLine_of_eq rfl, rfl⟩

/-! ### A FINDING sent (R145, R163, R164) -/

theorem told_key (carried : RecordStatus) (r : Finding) : (r.told carried).key = r.key := by
  unfold Finding.told
  split <;> rfl

theorem done_iff {f : Finding} :
    f.done = true ↔ f.status.isActive = false ∧ f.acknowledged = true ∧ f.announced = true := by
  simp [Finding.done, and_assoc]

/-- The record of a key is the one record of that key. -/
theorem record_eq_some {s : State} (keys : (s.report.findings.map Finding.key).Nodup) {k : Key} {r : Finding} :
    s.record k = some r ↔ r ∈ s.report.findings ∧ r.key = k := by
  constructor
  · intro found
    exact ⟨List.mem_of_find?_eq_some found, by simpa using List.find?_some found⟩
  · rintro ⟨mem, rfl⟩
    cases found : s.record r.key with
    | none => exact absurd (List.find?_eq_none.mp found r mem) (by simp)
    | some q =>
      have same : q.key = r.key := by simpa using List.find?_some found
      rw [List.inj_on_of_nodup_map keys (List.mem_of_find?_eq_some found) mem same]

/-- A sent FINDING: its place left, its record told, and finding telegrams queued. -/
theorem execFindingSent_eq {s : State} {tr : Transmission} {k : Key} (runs : s.lineRuns = true)
    (sends : s.line.transmission = some tr) (place : tr.inQueue = true) (finding : tr.telegram = .finding k) (b d : Bool) :
    exec (.attemptOutcome false b d) s = finish
      (tr.status.elim ((s.modLine (.endAttempt .afterWindow)).modLine (.leave (.finding k))) fun carried =>
        ((s.modLine (.endAttempt .afterWindow)).modLine (.leave (.finding k))).findingSent k carried).queueFindings := by
  have answer := execAttemptOutcome_eq runs sends false b d
  rw [if_pos place, queuedWindow_sent (by rw [finding]; nofun) (readWindow_ne_repeat b d), State.sent, finding] at answer
  rw [answer]
  cases tr.status <;> rfl

/-- Settles O41: the one record of the key told, and the telegrams that then wait. -/
theorem findingSent : Obligations.FindingSent := by
  refine ⟨fun s tr k carried r b d runs sends place finding status keys found self => ?_,
    fun s tr k b d runs sends place finding keys other => ?_⟩
  · have answer := execFindingSent_eq runs sends place finding b d
    rw [status, Option.elim_some] at answer
    generalize sentState : ((s.modLine (.endAttempt .afterWindow)).modLine (.leave (.finding k))).findingSent k carried = u
      at answer
    have findings : u.report.findings = changeRecord k (Finding.told carried) s.report.findings := by rw [← sentState]; rfl
    have line : u.line = (s.line.endAttempt .afterWindow).leave (.finding k) := by rw [← sentState]; rfl
    have keys' : (u.report.findings.map Finding.key).Nodup := by
      rw [findings]
      exact keys.sublist (changeRecord_keys (told_key carried) _)
    obtain ⟨after, queued, queue⟩ := queueFindings_eq u keys'
    obtain ⟨rmem, rkey⟩ := (record_eq_some keys).mp found
    have told : r.told carried = { r with
        announced := r.announced || carried == r.status || (carried.isActive && r.status.isActive)
        reportedActive := r.reportedActive || carried.isActive } := if_pos (by simp [self])
    have left : ∀ q ∈ u.line.queue, q.telegram ≠ .finding k := fun q mem => by
      rw [line] at mem
      simpa using (List.mem_filter.mp mem).2
    have ofKey : ∀ f ∈ u.report.findings, f.key = k → f = r.told carried := fun f mem key => by
      rw [findings] at mem
      rcases (mem_changeRecord (told_key carried)).mp mem with ⟨-, other⟩ | ⟨x, xmem, xkey, rfl, -⟩
      · exact absurd key other
      · rw [List.inj_on_of_nodup_map keys xmem rmem (xkey.trans rkey.symm)]
    rw [queue] at answer
    refine ⟨_, answer, ?_, ?_, ?_, ?_, ?_, ?_, ?_, fun q notFinding => ?_, ?_, fun announced => ?_, fun untold room => ?_⟩
    · rw [← sentState]; exact ⟨rfl, rfl, rfl, rfl, rfl, rfl⟩
    · rw [← sentState]; rfl
    · rw [← sentState]; rfl
    · rw [← sentState]; rfl
    · rw [← sentState]; rfl
    · rw [← sentState]; rfl
    · rw [← sentState]; rfl
    · change q ∈ after ↔ _
      have kept : q ∈ u.line.queue ↔ q ∈ s.line.queue := by
        rw [line]
        change q ∈ s.line.queue.filter _ ↔ _
        rw [List.mem_filter]
        refine and_iff_left ?_
        rw [bne_iff_ne]
        intro same
        rw [same] at notFinding
        cases notFinding
      rw [← kept]
      refine ⟨fun mem => ?_, findingsQueued_subset queued⟩
      rcases mem_of_findingsQueued queued mem with mem | ⟨f, -, -, -, rfl⟩
      · exact mem
      · cases notFinding
    · change u.report.findings = _
      rw [findings, changeRecord_eq_filterMap (told_key carried)]
      refine List.filterMap_congr fun f mem => ?_
      by_cases key : f.key = k
      · obtain rfl := List.inj_on_of_nodup_map keys mem rmem (key.trans rkey.symm)
        rw [if_pos key, if_pos key]
        simp only [done_iff, told]
      · rw [if_neg key, if_neg key]
    · change (after.any fun q => q.telegram == .finding k) = false
      rw [List.any_eq_false]
      intro q mem same
      have same : q.telegram = .finding k := by simpa using same
      rcases mem_of_findingsQueued queued mem with mem | ⟨f, fmem, -, silent, rfl⟩
      · exact left q mem same
      · have key : f.key = k := by simpa using same
        rw [ofKey f fmem key, told] at silent
        exact absurd (announced.symm.trans silent) (by simp)
    · change (after.any fun q => q.telegram == .finding k) = true
      have mem : r.told carried ∈ u.report.findings := by
        rw [findings]
        refine (mem_changeRecord (told_key carried)).mpr (.inr ⟨r, rmem, rkey, rfl, ?_⟩)
        rw [← Bool.not_eq_true, done_iff, told]
        rintro ⟨-, -, announced⟩
        exact absurd (untold.symm.trans announced) (by simp)
      obtain ⟨q, qmem, same⟩ := findingsQueued_tells queued room mem (by rw [told]; exact self) (by rw [told]; exact untold)
      rw [told_key, rkey] at same
      exact List.any_eq_true.mpr ⟨q, qmem, by simp [same]⟩
  · have answer := execFindingSent_eq runs sends place finding b d
    have unchanged : ∀ carried, changeRecord k (Finding.told carried) s.report.findings = s.report.findings := fun carried => by
      rw [changeRecord_eq_filterMap (told_key carried)]
      refine (List.filterMap_congr fun f mem => ?_).trans List.filterMap_some
      by_cases key : f.key = k
      · obtain ⟨partner, kept⟩ := other f ((record_eq_some keys).mpr ⟨mem, key⟩)
        have same : f.told carried = f := if_neg (by simpa using partner)
        rw [if_pos key, same, if_neg (by rw [done_iff]; exact kept)]
      · rw [if_neg key]
    have sent : (tr.status.elim ((s.modLine (.endAttempt .afterWindow)).modLine (.leave (.finding k))) fun carried =>
        ((s.modLine (.endAttempt .afterWindow)).modLine (.leave (.finding k))).findingSent k carried)
        = (s.modLine (.endAttempt .afterWindow)).modLine (.leave (.finding k)) := by
      cases tr.status with
      | none => rfl
      | some carried =>
        change { s with
          line := (s.line.endAttempt .afterWindow).leave (.finding k)
          report := { s.report with findings := changeRecord k (Finding.told carried) s.report.findings } } = _
        rw [unchanged]
        rfl
    rw [sent] at answer
    obtain ⟨after, queued, queue⟩ := queueFindings_eq ((s.modLine (.endAttempt .afterWindow)).modLine (.leave (.finding k)))
      keys
    rw [queue] at answer
    refine ⟨_, after, answer, onlyLine_of_eq rfl, queued, ?_, rfl⟩
    change (after.any fun q => q.telegram == .finding k) = false
    rw [List.any_eq_false]
    intro q mem same
    have same : q.telegram = .finding k := by simpa using same
    rcases mem_of_findingsQueued queued mem with mem | ⟨f, fmem, self, -, rfl⟩
    · exact absurd same (by simpa using (List.mem_filter.mp mem).2)
    · have key : f.key = k := by simpa using same
      exact (other f ((record_eq_some keys).mpr ⟨fmem, key⟩)).1 self

/-! ### Events without room -/

/-- Settles O44: each command looks first at what it needs. -/
theorem eventsWithoutRoom : Obligations.EventsWithoutRoom := by
  intro s chars image straps v a b d
  refine ⟨fun deaf => ?_, fun still => ?_, fun up => ?_, fun off => ?_, fun evaluating => ?_, fun idle => ?_,
    fun quiet => ?_, fun free => ?_⟩
  · simp [exec, execReceiveDigest, execReceiveClaim, execReceiveQuery, execAcknowledge, execRestartWarm, execRestartCold,
      execReceiveFinding, execReceiveReply, deaf]
  · simp [exec, execScanStrobe, execConversionComplete, execPeriodExpiry, execEvaluationCompletion, still]
  · simp [exec, execImageReadComplete, execMemorySilent, up]
  · simp [exec, execLineIdle, execLeaveTelegram, execDefer, execBackoffEnd, execContentionLoss, execAttemptOutcome,
      execRepeatPauseEnd, execStartBitRead, execLineFaultOnTransmit, execDigestTaken, execQueryStatus, execQueryFindings,
      execQueryNeighbours, State.takes, off]
  · simp [exec, execPeriodExpiry, execDigestTaken, execQueryStatus, execQueryFindings, execQueryNeighbours, State.takes,
      evaluating]
  · have over_ : s.eval.inFlight = none := by simpa [State.evaluating] using idle
    simp [exec, execEvaluationCompletion, over_]
  · simp [exec, execContentionLoss, execLineFaultOnTransmit, execAttemptOutcome, quiet]
  · simp [exec, execDefer, execBackoffEnd, free]

end Sys2Proof.Machine
end

/-! Telegrams without effect (O45), refusals during an evaluation (O46), stale claims (O48), digests without an entry (O35),
queries and acknowledgements (O53, O54), and what a telegram carries (O38). -/

section
namespace Sys2Proof.Machine

/-! ### Telegrams without effect (R155) -/

/-- The commands that a received telegram can be. -/
abbrev receptions (chars : List Byte) (straps : BitVec 6) : List Instr :=
  [.receiveDigest chars, .receiveClaim chars, .receiveQuery chars, .acknowledge chars, .restartWarm chars straps,
   .restartCold chars straps, .receiveFinding chars, .receiveReply chars]

/-- A reception hears a telegram of one kind; a FINDING or a REPLY heard has no handler. -/
theorem exec_of_reception {chars : List Byte} {straps : BitVec 6} {s : State} (listens : s.listening = true) {c : Instr}
    (mem : c ∈ receptions chars straps) :
    ∃ (kind : Nat) (handle : Telegram → State → State), exec c s = finish (s.receive kind chars handle)
      ∧ (kind = 3 ∨ kind = 5 → ∀ t u, handle t u = u) := by
  simp only [receptions, List.mem_cons, List.not_mem_nil, or_false] at mem
  rcases mem with rfl | rfl | rfl | rfl | rfl | rfl | rfl | rfl
  · exact ⟨1, _, if_pos listens, by omega⟩
  · exact ⟨2, _, if_pos listens, by omega⟩
  · exact ⟨4, _, if_pos listens, by omega⟩
  · exact ⟨6, _, if_pos listens, by omega⟩
  · exact ⟨7, _, if_pos listens, by omega⟩
  · exact ⟨7, _, if_pos listens, by omega⟩
  · exact ⟨3, _, if_pos listens, fun _ _ _ => rfl⟩
  · exact ⟨5, _, if_pos listens, fun _ _ _ => rfl⟩

/-- The values that R149 admits. -/
theorem valueFits_iff {kind : Nat} {body : List Byte} :
    valueFits kind body = true ↔ (kind = 4 → 1 ≤ byteAt body 1 ∧ byteAt body 1 ≤ 3)
      ∧ (kind = 6 → 1 ≤ byteAt body 1 ∧ byteAt body 1 ≤ 7) ∧ (kind = 7 → byteAt body 1 = 1 ∨ byteAt body 1 = 2) := by
  unfold valueFits
  split
  · simp
  · simp
  · simp
  · rename_i notQuery notAcknowledge notRestart
    exact ⟨fun _ => ⟨fun h => absurd h notQuery, fun h => absurd h notAcknowledge, fun h => absurd h notRestart⟩,
      fun _ => rfl⟩

/-- Settles O45: a telegram that fails one of the rows of R155 comes to no handler. -/
theorem telegramsWithoutEffect : Obligations.TelegramsWithoutEffect := by
  refine ⟨fun chars straps s listens whole damaged c mem => ?_, fun chars straps tel s listens numbered carries why c mem => ?_⟩
  · obtain ⟨kind, handle, answer, -⟩ := exec_of_reception listens mem
    rw [receive_of_damaged whole damaged] at answer
    exact ⟨_, answer, onlyLine_of_line _ s, rfl⟩
  · obtain ⟨kind, handle, answer, idle⟩ := exec_of_reception listens mem
    rw [receive_of_carries carries] at answer
    have silent : (if tel.kind = kind ∧ concernsStation s.own tel = true then handle tel (s.modLine Line.heard)
        else s.modLine Line.heard) = s.modLine Line.heard := by
      by_cases handled : tel.kind = kind ∧ concernsStation s.own tel = true
      · rw [if_pos handled]
        obtain ⟨same, concerns⟩ := handled
        rw [concernsStation_iff, valueFits_iff] at concerns
        obtain ⟨length, ⟨query, acknowledge, restart⟩, destination, terminal, claim⟩ := concerns
        refine idle ?_ tel _
        rcases why with h | h | h | h | h | h | h | h | h | h
        · rw [length] at h; cases h
        · rw [valueFits_iff.mpr ⟨query, acknowledge, restart⟩] at h; cases h
        · have := query h.1; omega
        · have := acknowledge h.1; omega
        · have := restart h.1; omega
        · omega
        · omega
        · exact absurd h claim
        · exact .inl (same ▸ h)
        · exact .inr (same ▸ h)
      · exact if_neg handled
    rw [silent] at answer
    exact ⟨_, answer, onlyLine_of_line _ s, rfl⟩

/-! ### Telegrams to the own number -/

section
variable {chars : List Byte} {straps : BitVec 6} {tel : Telegram} {s : State}

/-- What a window makes of a telegram to the own number of a kind with a body of fixed length. -/
theorem execReceiveClaim_of_own (listens : s.listening = true) (numbered : s.numbered) (carries : Carries chars tel)
    (own : tel.destination = s.own) (kind : tel.kind = 2) (length : tel.body.length = 2) :
    exec (.receiveClaim chars) s = finish ((s.modLine Line.heard).decideClaim tel.source (tel.body.getD 1 0#8)) := by
  have concerns : concernsStation s.own tel = true :=
    concernsStation_of_own numbered own (by simp [bodyLengthFits, kind, length]) (valueFits_iff.mpr (by omega)) (by omega)
  rw [show exec (.receiveClaim chars) s = _ from if_pos listens, receive_of_handled carries kind concerns]
  rfl

theorem execAcknowledge_of_own (listens : s.listening = true) (numbered : s.numbered) (carries : Carries chars tel)
    (own : tel.destination = s.own) (kind : tel.kind = 6) (length : tel.body.length = 2)
    (value : 1 ≤ byteAt tel.body 1 ∧ byteAt tel.body 1 ≤ 7) (source : 60 ≤ tel.source ∧ tel.source ≤ 62) :
    exec (.acknowledge chars) s = finish ((s.modLine Line.heard).acceptAcknowledge tel) := by
  have concerns : concernsStation s.own tel = true :=
    concernsStation_of_own numbered own (by simp [bodyLengthFits, kind, length]) (valueFits_iff.mpr (by omega))
      fun _ => source
  rw [show exec (.acknowledge chars) s = _ from if_pos listens, receive_of_handled carries kind concerns]

theorem concernsStation_of_restart (numbered : s.numbered) (own : tel.destination = s.own) (kind : tel.kind = 7) {v : Byte}
    (body : tel.body = [v]) (value : v.toNat = 1 ∨ v.toNat = 2) (source : 60 ≤ tel.source ∧ tel.source ≤ 62) :
    concernsStation s.own tel = true := by
  have at_ : byteAt tel.body 1 = v.toNat := by rw [body]; rfl
  exact concernsStation_of_own numbered own (by simp [bodyLengthFits, kind, body]) (valueFits_iff.mpr (by omega))
    fun _ => source

end

/-- Settles O46: each handler looks first whether an evaluation is in flight. -/
theorem addressedDuringEvaluation : Obligations.AddressedDuringEvaluation := by
  rintro chars straps tel s listens numbered evaluating carries own c which
  have evaluates : (s.modLine Line.heard).evaluating = true := evaluating
  have answer : exec c s = finish ((s.modLine Line.heard).driveMark .repeatMark) := by
    rcases which with ⟨rfl, kind, length⟩ | ⟨rfl, kind, length, low, high, source⟩ | ⟨rfl, kind, body, source⟩ |
      ⟨rfl, kind, body, source⟩
    · rw [execReceiveClaim_of_own listens numbered carries own kind length, State.decideClaim, if_pos evaluates]
      rfl
    · rw [execAcknowledge_of_own listens numbered carries own kind length ⟨low, high⟩ source, State.acceptAcknowledge,
        if_pos evaluates]
    · rw [show exec (.restartWarm chars straps) s = _ from if_pos listens,
        receive_of_handled carries kind (concernsStation_of_restart numbered own kind body (.inl rfl) source),
        body, State.acceptRestart, if_pos evaluates]
      rfl
    · rw [show exec (.restartCold chars straps) s = _ from if_pos listens,
        receive_of_handled carries kind (concernsStation_of_restart numbered own kind body (.inr rfl) source),
        body, State.acceptRestart, if_pos evaluates]
      rfl
  exact ⟨_, answer, onlyLine_of_line (fun l => { l.heard with mark := some .repeatMark }) s, rfl⟩

/-- Settles O48: the epochs are compared before the candidate is looked at. -/
theorem claimAnsweredStale : Obligations.ClaimAnsweredStale := by
  intro chars source claimant seen e s listens runs numbered idle carries entry differs
  have answer := execReceiveClaim_of_own listens numbered carries rfl rfl rfl
  have stale : (s.modLine Line.heard).decideClaim source seen
      = s.modLine fun l => { l.heard with mark := some .stale } := by
    have answered : (s.modLine Line.heard).claimAnswer source seen = some .stale := by
      have entry' : (s.modLine Line.heard).entry source = some e := entry
      simp only [State.claimAnswer, entry']
      exact if_pos (by simpa using differs)
    have idle' : (s.modLine Line.heard).evaluating = false := idle
    have runs' : (s.modLine Line.heard).running = true := runs
    simp only [State.decideClaim, idle', runs', answered]
    rfl
  rw [show ([claimant, seen] : List Byte).getD 1 0#8 = seen from rfl, stale] at answer
  exact ⟨_, answer, onlyLine_of_line _ s, rfl⟩

/-! ### Digests without an entry (R82, R83, R85, R92) -/

section
variable {s : State} {source : Nat} {d : Digest} {rest : List Received}

theorem running_lineRuns (h : s.running = true) : s.lineRuns = true := by
  rw [State.lineRuns, h, Bool.true_or]

theorem takes_of_idle (runs : s.lineRuns = true) (idle : s.evaluating = false) : s.takes = true := by
  simp [State.takes, runs, idle]

theorem access_of_runs (h : s.lineRuns = true) : s.access = s.modLine Line.beginBackoff := if_pos h

/-- The digest at the head of the receive queue is taken (R82). -/
theorem execDigestTaken_eq (runs : s.lineRuns = true) (idle : s.evaluating = false)
    (head : s.line.received = .digest source d :: rest) :
    exec .digestTaken s
      = finish (((s.modLine fun l => { l with received := rest }).takeDigest source d).access) := by
  have popped : s.popReceived = s.modLine fun l => { l with received := rest } := by
    simp [State.popReceived, State.modLine, head]
  simp only [exec, execDigestTaken, takes_of_idle runs idle, head, popped]

/-- A digest discarded (R82, R85, R92). -/
theorem takeDigest_of_discarded
    (why : s.running = false ∨ (source ≠ s.own ∧ (source = 0 ∨ 60 ≤ source ∨ 4 < d.zoneCount ∨ 8 < d.holderCount
      ∨ s.entry source = none ∧ s.cfg.matchSet d.zones = []))) : s.takeDigest source d = s := by
  unfold State.takeDigest
  split
  · rfl
  rename_i running
  obtain ⟨foreign, why⟩ := why.resolve_left (by simpa using running)
  rw [if_neg (by simpa using foreign)]
  split
  · rfl
  rename_i numbered
  split
  · rfl
  rename_i counts
  obtain ⟨absent, unmatched⟩ := why.resolve_left (by simp at numbered; omega)
    |>.resolve_left (by simp at numbered; omega) |>.resolve_left (by simp at counts; omega)
    |>.resolve_left (by simp at counts; omega)
  simp [absent, unmatched, State.digestFromUnknown]

theorem halted_not_running (h : s.halted = true) : s.running = false := by
  simp only [State.halted, Bool.and_eq_true, beq_iff_eq] at h
  simp [State.running, h.2]

end

/-- Settles O35: the own number is reported, every other digest of these is discarded. -/
theorem digestWithoutEntry : Obligations.DigestWithoutEntry := by
  refine ⟨fun s d rest runs idle head => ?_, fun s source d rest runs idle numbered head stranger => ?_,
    fun s source d rest runs idle head why => ?_⟩
  · have answer := execDigestTaken_eq (running_lineRuns runs) idle head
    have runs' : (s.modLine fun l => { l with received := rest }).running = true := runs
    have own : (s.modLine fun l => { l with received := rest }).takeDigest s.own d
        = (s.modLine fun l => { l with received := rest }).duplicateSeen := by
      simp only [State.takeDigest, runs']
      exact if_pos (beq_self_eq_true _)
    have runs'' : (s.modLine fun l => { l with received := rest }).duplicateSeen.lineRuns = true := running_lineRuns runs
    rw [own, access_of_runs runs''] at answer
    have follows : s.linesFollow = true := by rw [State.linesFollow, runs, Bool.true_or]
    have fault : (s.linesFollow && ((s.halted || true) || s.table.saturated)) = true := by simp [follows]
    exact ⟨_, answer, ⟨rfl, rfl, rfl, rfl, rfl, rfl⟩, rfl, rfl, rfl, fault, rfl⟩
  · have answer := execDigestTaken_eq (running_lineRuns runs) idle head
    have foreign : source ≠ s.own := by
      obtain ⟨low, high⟩ := numbered
      omega
    rw [takeDigest_of_discarded (s := s.modLine _) (.inr ⟨foreign, by omega⟩), access_modLine (running_lineRuns runs)] at answer
    exact ⟨_, answer, onlyLine_of_eq rfl, rfl⟩
  · have answer := execDigestTaken_eq runs idle head
    rw [takeDigest_of_discarded (s := s.modLine _) (why.imp halted_not_running fun ⟨foreign, h⟩ => ⟨foreign, .inr (.inr h)⟩),
      access_modLine runs] at answer
    exact ⟨_, answer, onlyLine_of_eq rfl, rfl⟩

/-! ### Queries (R169, R170) -/

theorem toByte_toNat (f : StickyFlags) : f.toByte.toNat =
    (if f.scanOverrun then 1 else 0) + (if f.sampleLoss then 2 else 0) + (if f.receiveLoss then 4 else 0)
      + (if f.duplicateSeen then 8 else 0) + (if f.telegramDiscarded then 16 else 0)
      + (if f.neighbourRefused then 32 else 0) := by
  obtain ⟨a, b, c, d, e, g⟩ := f
  revert a b c d e g
  decide

/-- Settles O53: a query taken submits its reply. -/
theorem queriesTaken : Obligations.QueriesTaken := by
  refine ⟨fun s source start rest runs idle head => ?_, fun s source start what rest c runs idle which head => ?_⟩
  · have popped : s.popReceived = s.modLine fun l => { l with received := rest } := by
      simp [State.popReceived, State.modLine, head]
    have answer : exec .queryStatus s = finish ((s.modLine fun l => { l with received := rest }).answerStatus source).access := by
      simp only [exec, execQueryStatus, takes_of_idle runs idle, head, popped]
    exact ⟨_, answer.trans (congrArg finish (access_of_runs (by exact runs))), ⟨rfl, rfl, rfl, rfl, rfl, rfl⟩, rfl,
      rfl, rfl, rfl, toByte_toNat _⟩
  · have popped : s.popReceived = s.modLine fun l => { l with received := rest } := by
      simp [State.popReceived, State.modLine, head]
    have answer : exec c s = finish ((s.modLine fun l => { l with received := rest }).answerList source what start).access := by
      rcases which with ⟨rfl, rfl⟩ | ⟨rfl, rfl⟩
      · simp only [exec, execQueryFindings, takes_of_idle runs idle, head, popped]
      · simp only [exec, execQueryNeighbours, takes_of_idle runs idle, head, popped]
    cases running : s.running with
    | true =>
      have replies : (s.modLine fun l => { l with received := rest }).answerList source what start
          = (s.modLine fun l => { l with received := rest }).modLine (.submit (.reply source what start 0#8)) :=
        if_pos running
      rw [replies] at answer
      refine ⟨_, answer.trans (congrArg finish (access_of_runs (by exact runs))), onlyLine_of_eq rfl, fun _ => rfl, fun halted => ?_⟩
      rw [halted_not_running halted] at running
      cases running
    | false =>
      have silent : (s.modLine fun l => { l with received := rest }).answerList source what start
          = s.modLine fun l => { l with received := rest } := if_neg (by simpa using running)
      rw [silent, access_modLine runs] at answer
      exact ⟨_, answer, onlyLine_of_eq rfl, nofun, fun _ => rfl⟩

/-! ### Acknowledgements (R165, R166) -/

theorem ofNumber_number (k : Kind) : Kind.ofNumber k.number = some k := by cases k <;> rfl

/-- Settles O54: the record named is acknowledged. -/
theorem acknowledgement : Obligations.Acknowledgement := by
  intro chars source kind subject k s listens numbered idle low high carries number keys
  have value : 1 ≤ k.number ∧ k.number ≤ 7 := by cases k <;> decide
  have answer := execAcknowledge_of_own listens numbered carries rfl rfl rfl
    (show 1 ≤ kind.toNat ∧ kind.toNat ≤ 7 by omega) ⟨low, high⟩
  generalize carried : (⟨6, source, s.own, [kind, subject]⟩ : Telegram) = tel at answer
  have kindNumber : byteAt tel.body 1 = k.number := by rw [← carried, ← number]; rfl
  have subjectNumber : byteAt tel.body 2 = subject.toNat := by rw [← carried]; rfl
  have idle' : (s.modLine Line.heard).evaluating = false := idle
  have decided : (s.modLine Line.heard).acceptAcknowledge tel =
      if s.running = true ∧ (s.record ⟨k, subject.toNat⟩).isSome = true then
        ((s.modLine Line.heard).driveMark .concur).acknowledgeRecord ⟨k, subject.toNat⟩
      else s.modLine Line.heard := by
    have running : (s.modLine Line.heard).running = s.running := rfl
    have record : ∀ key, (s.modLine Line.heard).record key = s.record key := fun _ => rfl
    simp only [State.acceptAcknowledge, idle', kindNumber, subjectNumber, ofNumber_number, running, record, ite_and,
      Bool.false_eq_true, if_false]
  rw [decided] at answer
  by_cases stands : s.running = true ∧ (s.record ⟨k, subject.toNat⟩).isSome = true
  · rw [if_pos stands] at answer
    refine ⟨_, answer, ⟨rfl, rfl, rfl, rfl, rfl, rfl⟩, rfl, rfl, fun _ _ => ⟨rfl, ?_⟩, fun absent => ?_⟩
    · change changeRecord ⟨k, subject.toNat⟩ (fun r => { r with acknowledged := true }) s.report.findings = _
      rw [changeRecord_eq_filterMap (g := fun r => { r with acknowledged := true }) fun _ => rfl]
      simp [done_iff]
    · rcases absent with h | h
      · rw [h] at stands; exact absurd stands.1 (by decide)
      · rw [h] at stands; exact absurd stands.2 (by decide)
  · rw [if_neg stands] at answer
    exact ⟨_, answer, ⟨rfl, rfl, rfl, rfl, rfl, rfl⟩, rfl, rfl, fun running found => absurd ⟨running, found⟩ stands,
      fun _ => ⟨rfl, rfl⟩⟩

/-! ### What a telegram carries (R117, R130, R147 to R152) -/

theorem signedBytes_eq (z : Int) : signedBytes z = [asByte ((z % 65536).toNat / 256), asByte (z % 65536).toNat] := by
  rw [signedBytes, BitVec.toNat_ofInt]
  rfl

theorem holderList_eq (t : NeighbourTable) :
    t.holderList = (t.entries.filter fun e => e.ownership = .holder).map Entry.station := rfl

theorem digestBody_eq (x : Summary) (restart : Bool) (zones holders : List Nat) :
    digestBody x restart zones holders =
      [x.sequence, x.epoch,
        asByte ((if restart then 128 else 0) + (if x.fanProven then 64 else 0) + (if x.effortValid then 32 else 0)
          + (if x.hunting then 16 else 0)),
        asByte ((x.effort % 65536).toNat / 256), asByte (x.effort % 65536).toNat,
        asByte (16 * zones.length + holders.length)] ++ zones.map asByte ++ holders.map asByte := by
  rw [digestBody, signedBytes_eq, Nat.mul_comm zones.length]
  rfl

theorem findingBody_eq (r : Finding) :
    findingBody r = [asByte r.key.kind.number, asByte r.key.subject, asByte r.status.code,
      if r.corroborated then 1#8 else 0#8, asByte r.occurrences, asByte (r.peak / 256), asByte r.peak, r.sequence] := by
  cases corroborated : r.corroborated <;> simp [findingBody, corroborated, pairBytes, bitAt, asByte]

theorem candidate_eq (s : State) (k : Key) :
    s.candidate k = if k.kind = .crossFight then (s.entry k.subject).map Entry.pair
      else (s.locals.find? fun x => x.key == k).map LocalCandidate.scored := by
  simp [State.candidate]

/-- The byte of a last outcome, case by case (R152). -/
theorem lastOutcomeByte_eq (last : Option Verdict) :
    lastOutcomeByte last = (match last with
      | none => 0#8
      | some (.evidence gain) => asByte (64 + gain / 16)
      | some .noEvidence => asByte 128
      | some .notAssessable => asByte 192) := by
  cases last with
  | none => rfl
  | some v => cases v <;> rfl

/-- What is gathered passes its check, bears its telegram and stands in the queue. -/
theorem gather_eq_some {s : State} {o : Outgoing} {tr : Transmission} (h : s.gather o = some tr) :
    checkPasses tr.chars = true ∧ tr.telegram = o ∧ tr.inQueue = true := by
  cases o with
  | digest =>
    obtain ⟨x, -, rfl⟩ := Option.map_eq_some_iff.mp h
    exact ⟨checkPasses_sealed _, rfl, rfl⟩
  | claim p =>
    obtain ⟨e, -, rfl⟩ := Option.map_eq_some_iff.mp h
    exact ⟨checkPasses_sealed _, rfl, rfl⟩
  | finding k =>
    obtain ⟨r, -, rfl⟩ := Option.map_eq_some_iff.mp h
    exact ⟨checkPasses_sealed _, rfl, rfl⟩
  | reply terminal what start flags =>
    cases Option.some.inj h
    exact ⟨checkPasses_sealed _, rfl, rfl⟩

/-- Settles O38: each body as its section of chapter 8 lays it out. -/
theorem gatheredContent : Obligations.GatheredContent := by
  intro s o tr gathered
  obtain ⟨checked, telegram, place⟩ := gather_eq_some gathered
  refine ⟨checked, telegram, place, ?_, ?_, ?_, ?_, ?_, ?_⟩
  · rintro rfl
    obtain ⟨x, summary, rfl⟩ := Option.map_eq_some_iff.mp gathered
    refine ⟨x, summary, rfl, ?_⟩
    rw [digestBody_eq]
    rfl
  · rintro p rfl
    obtain ⟨e, entry, rfl⟩ := Option.map_eq_some_iff.mp gathered
    exact ⟨e, entry, rfl⟩
  · rintro k rfl
    obtain ⟨r, record, rfl⟩ := Option.map_eq_some_iff.mp gathered
    refine ⟨r, record, rfl, ?_⟩
    rw [findingBody_eq]
  · rintro terminal start flags rfl
    cases Option.some.inj gathered
    refine ⟨asByte s.loader.station.code, asByte s.loader.halt.code, asByte s.loader.cause.code, rfl, ?_, ?_, ?_⟩
    · intro running
      simp only [State.running, Bool.and_eq_true, beq_iff_eq] at running
      rw [running.2]
      rfl
    · intro halted
      simp only [State.halted, Bool.and_eq_true, beq_iff_eq] at halted
      rw [halted.2]
      rfl
    · cases s.loader.halt <;> cases s.loader.cause <;> simp [HaltCause.code, RestartCause.code, asByte]
  · rintro terminal start flags rfl
    cases Option.some.inj gathered
    refine congrArg (fun b => sealed (headed 5 s.own terminal ([2#8, asByte start, asByte s.report.findings.length] ++ b)))
      (congrArg (fun g => List.flatMap g ((s.report.findings.drop start).take 4)) (funext fun r => ?_))
    simp only [← candidate_eq]
    have status : r.status.code * 8
        = (match r.status with | .confirmed => 0 | .recovering => 8 | .retired => 16 | .withdrawn => 24) := by
      cases r.status <;> rfl
    have holder : asByte r.holder.code = (match r.holder with | .self => 0#8 | .partner p => asByte p) := by
      cases r.holder <;> rfl
    cases s.candidate r.key with
    | none =>
      simp only [findingRecord, status, holder]
      rfl
    | some c =>
      have last := lastOutcomeByte_eq c.last
      simp only [findingRecord, status, holder, Option.elim_some, last]
      rfl
  · rintro terminal start flags rfl
    cases Option.some.inj gathered
    refine congrArg (fun b => sealed (headed 5 s.own terminal ([3#8, asByte start, asByte s.table.entries.length] ++ b)))
      (congrArg (fun g => List.flatMap g ((s.table.entries.drop start).take 4)) (funext fun e => ?_))
    have freshness : (freshness e.age).code * 16 = if e.age ≤ 1 then 0 else if e.age ≤ 3 then 16 else 32 := by
      unfold Machine.freshness
      split_ifs <;> rfl
    have state : e.pair.state.code * 16
        = (match e.pair.state with | .clear => 0 | .suspect => 16 | .confirmed => 32 | .recovering => 48) := by
      cases e.pair.state <;> rfl
    have ownership : e.ownership.code * 4
        = (match e.ownership with | .unheld => 0 | .claiming => 4 | .holder => 8 | .follower => 12) := by
      cases e.ownership <;> rfl
    have last := lastOutcomeByte_eq e.pair.last
    have bits : ∀ n k, bitAt k (e.matchSet.contains n) = if n ∈ e.matchSet then 2 ^ k else 0 := fun n k => by
      simp [bitAt]
    simp only [neighbourRecord, freshness, matchBits, bits, last, ← Nat.add_assoc, Nat.reducePow, state, ownership]
      <;> rfl

end Sys2Proof.Machine
end

/-! The receive queue (O47), and what a digest does: to the entry of a known peer (O32, O33), or of a newcomer (O34). -/

section
namespace Sys2Proof.Machine

/-! ### Telegrams that join the receive queue (R155, R156) -/

/-- No count is begun on a busy line. -/
theorem access_of_busy {s : State} (busy : s.line.idle = false) : s.access = s := by
  have same : s.line.beginBackoff = s.line := by simp [Line.beginBackoff, busy]
  unfold State.access
  split
  · rw [State.modLine, same]
  · rfl

theorem modLine_received {s : State} {r : List Received} (h : s.line.received = r) :
    (s.modLine fun l => { l with received := r }) = s := by
  rw [← h]
  rfl

/-- Outside an evaluation nothing is left waiting, and no mark is driven. -/
theorem join_line {s : State} (idle : s.evaluating = false) (r : Received) :
    (s.join r).line.received = [] ∧ (s.join r).line.mark = s.line.mark := by
  have taken : s.join r = (s.modLine fun l => { l with received := l.received ++ [r] }).takeReceived :=
    if_neg (show ¬State.evaluating _ = true by simp [idle])
  rw [taken]
  exact ⟨(takeReceived_course _).received, (takeReceived_course _).mark⟩

theorem listening_lineRuns {s : State} (h : s.listening = true) : s.lineRuns = true := by
  simp only [State.listening, Bool.and_eq_true] at h
  exact h.1.1

/-- The command that takes the one telegram of a receive queue, the line being busy. -/
theorem exec_of_arrival {u : State} (runs : u.lineRuns = true) (idle : u.evaluating = false) (busy : u.line.idle = false)
    (empty : u.line.received = []) {c : Instr} {r : Received}
    (takes : (∃ source d, r = .digest source d ∧ c = .digestTaken)
      ∨ (∃ source start, r = .query source 1 start ∧ c = .queryStatus)
      ∨ (∃ source start, r = .query source 2 start ∧ c = .queryFindings)
      ∨ ∃ source start, r = .query source 3 start ∧ c = .queryNeighbours) :
    exec c (u.modLine fun l => { l with received := [r] }) = finish (u.takeOne r) := by
  have popped : (u.modLine fun l => { l with received := [r] }).popReceived = u := modLine_received empty
  have taking : (u.modLine fun l => { l with received := [r] }).takes = true := takes_of_idle runs idle
  have head : (u.modLine fun l => { l with received := [r] }).line.received = [r] := rfl
  have still : (u.takeOne r).access = u.takeOne r := access_of_busy ((takeOne_course u r).idle.trans busy)
  rw [← still]
  rcases takes with ⟨source, d, rfl, rfl⟩ | ⟨source, start, rfl, rfl⟩ | ⟨source, start, rfl, rfl⟩ |
    ⟨source, start, rfl, rfl⟩
  · simp only [exec, execDigestTaken, taking, head, popped]
    rfl
  · simp only [exec, execQueryStatus, taking, head, popped]
    rfl
  · simp only [exec, execQueryFindings, taking, head, popped]
    rfl
  · simp only [exec, execQueryNeighbours, taking, head, popped]
    rfl

/-- Settles O47: full queues and pending replies first; what joins an empty queue outside an evaluation is what the
command that takes it finds there. -/
theorem receiveQueueJoined : Obligations.ReceiveQueueJoined := by
  refine ⟨fun chars tel s listens numbered carries kind destination long length => ?_,
    fun chars source what start s listens numbered low high one three carries => ?_⟩
  · have concerns : concernsStation s.own tel = true := by
      have fits : bodyLengthFits tel.kind tel.body = true := by
        rw [kind]
        simp only [bodyLengthFits, Bool.and_eq_true, decide_eq_true_eq, beq_iff_eq]
        exact ⟨long, length⟩
      exact concernsStation_iff.mpr ⟨fits, valueFits_iff.mpr (by omega), destination, by omega, by omega⟩
    have answer : exec (.receiveDigest chars) s = finish ((s.modLine Line.heard).acceptDigest tel) := by
      rw [show exec (.receiveDigest chars) s = _ from if_pos listens, receive_of_handled carries kind concerns]
    have joins : s.line.received.length < 4 → (s.modLine Line.heard).acceptDigest tel
        = (s.modLine Line.heard).join (.digest tel.source (readDigest tel.body)) := fun few =>
      if_neg (Nat.not_le.mpr few)
    refine ⟨_, answer, .trans ((KeepsCore.modLine _ s).trans (acceptDigest_keepsCore ..)) (.driveLines _),
      fun evaluating few => ?_, fun idle few => ?_, fun idle empty => ?_, fun full => ?_⟩
    · rw [joins few, join_of_evaluating _ (by exact evaluating)]
      exact ⟨onlyLine_of_eq rfl, rfl⟩
    · rw [joins few]
      exact join_line (s := s.modLine Line.heard) idle _
    · rw [joins (by simp [empty]), join_of_not_evaluating _ (by exact idle) (by exact empty)]
      exact exec_of_arrival (u := s.modLine Line.heard) (show s.lineRuns = true from listening_lineRuns listens) idle rfl empty
        (.inl ⟨_, _, rfl, rfl⟩)
    · have lost : (s.modLine Line.heard).acceptDigest tel = (s.modLine fun l =>
          { l.heard with mark := if tel.destination = s.own then some .repeatMark else none }).flagReceiveLoss := by
        rw [State.acceptDigest, if_pos (by exact full)]
        by_cases own : tel.destination = s.own
        · rw [if_pos own]
          exact if_pos (by exact beq_iff_eq.mpr own)
        · rw [if_neg own]
          exact if_neg (by exact fun h => own (beq_iff_eq.mp h))
      rw [lost]
      exact ⟨rfl, rfl, rfl, rfl⟩
  · have concerns : concernsStation s.own { kind := 4, source := source, destination := s.own, body := [what, start] }
        = true :=
      concernsStation_of_own numbered rfl rfl (valueFits_iff.mpr ⟨fun _ => ⟨one, three⟩, nofun, nofun⟩) fun _ => ⟨low, high⟩
    have answer : exec (.receiveQuery chars) s = finish ((s.modLine Line.heard).acceptQuery
        { kind := 4, source := source, destination := s.own, body := [what, start] }) := by
      rw [show exec (.receiveQuery chars) s = _ from if_pos listens, receive_of_handled carries rfl concerns]
    have pending_iff : (s.modLine Line.heard).line.replyPending = true ↔
        (∃ q ∈ s.line.queue, q.telegram.isReply = true) ∨ ∃ r ∈ s.line.received, r.isQuery = true := by
      simp [Line.replyPending, Line.heard]
    have joins : ¬((∃ q ∈ s.line.queue, q.telegram.isReply = true) ∨ ∃ r ∈ s.line.received, r.isQuery = true) →
        s.line.received.length < 4 → (s.modLine Line.heard).acceptQuery
          { kind := 4, source := source, destination := s.own, body := [what, start] }
        = (s.modLine Line.heard).join (.query source what.toNat start.toNat) := fun free few => by
      rw [State.acceptQuery, if_neg (fun h => free (pending_iff.mp h)), if_neg (by exact Nat.not_le.mpr few)]
      rfl
    refine ⟨_, answer, .trans ((KeepsCore.modLine _ s).trans (acceptQuery_keepsCore ..)) (.driveLines _),
      fun pending => ?_, fun free full => ?_, fun free evaluating few => ?_, fun free idle few => ?_,
      fun free idle empty c which => ?_⟩
    · rw [State.acceptQuery, if_pos (pending_iff.mpr pending)]
      exact ⟨onlyLine_of_eq rfl, rfl⟩
    · rw [State.acceptQuery, if_neg (fun h => free (pending_iff.mp h)), if_pos (by exact full)]
      exact ⟨rfl, rfl, rfl, rfl⟩
    · rw [joins free few, join_of_evaluating _ (by exact evaluating)]
      exact ⟨onlyLine_of_eq rfl, rfl⟩
    · rw [joins free few]
      exact join_line (s := s.modLine Line.heard) idle _
    · rw [joins free (by simp [empty]), join_of_not_evaluating _ (by exact idle) (by exact empty)]
      refine exec_of_arrival (u := s.modLine Line.heard) (show s.lineRuns = true from listening_lineRuns listens) idle rfl empty (.inr ?_)
      rcases which with ⟨rfl, rfl⟩ | ⟨rfl, rfl⟩ | ⟨rfl, rfl⟩
      · exact .inl ⟨_, _, rfl, rfl⟩
      · exact .inr (.inl ⟨_, _, rfl, rfl⟩)
      · exact .inr (.inr ⟨_, _, rfl, rfl⟩)

end Sys2Proof.Machine
end

/-! What the pair coordinator makes of the record of its pair and of its telegrams (R119, R161, R162). -/

section
namespace Sys2Proof.Machine

/-! ### The active record of a key -/

/-- A record whose candidate is CLAIMING again (R161). -/
def Finding.claimed (r : Finding) : Finding := { r with holder := .self }

/-- A record whose pair follows station `p` (R161). -/
def Finding.followed (p : Nat) (r : Finding) : Finding := { r with holder := .partner p, announced := true }

/-- A record whose claim is settled (R161). -/
def Finding.settled (corroborated : Bool) (r : Finding) : Finding :=
  { r with holder := .self, announced := false, corroborated := r.corroborated || corroborated }

theorem Finding.claimed_key (r : Finding) : r.claimed.key = r.key := rfl
theorem Finding.followed_key (p : Nat) (r : Finding) : (r.followed p).key = r.key := rfl
theorem Finding.settled_key (corroborated : Bool) (r : Finding) : (r.settled corroborated).key = r.key := rfl
theorem Finding.withdrawn_key (r : Finding) : r.withdrawn.key = r.key := rfl

section
variable {k : Key} {g : Finding → Finding} {l : List Finding}

/-- The list with the active record of a key changed. -/
def changeActive (k : Key) (g : Finding → Finding) (l : List Finding) : List Finding :=
  changeRecord k (fun r => if r.status.isActive then g r else r) l

/-- An active record that stays active is in the list as changed. -/
theorem mem_changeActive (key : ∀ r, (g r).key = r.key) {r : Finding} (mem : r ∈ l) (same : r.key = k)
    (active : r.status.isActive = true) (kept : (g r).done = false) : g r ∈ changeActive k g l := by
  refine (mem_changeRecord fun r => ?_).mpr (.inr ⟨r, mem, same, if_pos active, kept⟩)
  split
  · exact key r
  · rfl

/-- What the changed list holds of the key is the changed record, or one that is not active. -/
theorem of_mem_changeActive (key : ∀ r, (g r).key = r.key) {f : Finding} (mem : f ∈ changeActive k g l) (same : f.key = k) :
    (∃ r ∈ l, r.key = k ∧ r.status.isActive = true ∧ f = g r) ∨ f.status.isActive = false := by
  rcases (mem_changeRecord fun r => by split; exacts [key r, rfl]).mp mem with ⟨-, other⟩ | ⟨r, old, rkey, rfl, -⟩
  · exact absurd same other
  · cases active : r.status.isActive with
    | true => exact .inl ⟨r, old, rkey, active, rfl⟩
    | false => exact .inr active

theorem mem_changeActive_of_ne (key : ∀ r, (g r).key = r.key) {f : Finding} (other : f.key ≠ k) :
    f ∈ changeActive k g l ↔ f ∈ l := by
  refine (mem_changeRecord fun r => by split; exacts [key r, rfl]).trans ⟨?_, fun mem => .inl ⟨mem, other⟩⟩
  rintro (⟨mem, -⟩ | ⟨r, -, rkey, rfl, -⟩)
  · exact mem
  · refine absurd ?_ other
    split
    · exact (key r).trans rkey
    · exact rkey

end

/-- A record withdrawn is no longer active, and stays unless it is then done with (R162, R166). -/
theorem recordWithdrawn_of_changed {k : Key} {s t : State}
    (changed : t.report.findings = changeActive k Finding.withdrawn s.report.findings) : RecordWithdrawn k s t := by
  rw [RecordWithdrawn, changed]
  refine ⟨fun f mem same => ?_, fun f mem same active => ?_⟩
  · rcases of_mem_changeActive Finding.withdrawn_key mem same with ⟨r, -, -, -, rfl⟩ | idle
    · rfl
    · exact idle
  · intro w stays
    refine mem_changeActive Finding.withdrawn_key mem same active (Bool.not_eq_true _ ▸ fun done => ?_)
    obtain ⟨-, acknowledged, announced⟩ := done_iff.mp done
    exact stays ⟨acknowledged, announced⟩

/-! ### Telegrams withdrawn -/

theorem withdraw_holds (o : Outgoing) (l : Line) : (l.withdraw o).holds o = false := by
  rw [Line.holds_eq_false_iff]
  simp [Line.telegrams]

theorem withdraw_holds_of_not {o o' : Outgoing} {l : Line} (absent : l.holds o' = false) :
    (l.withdraw o).holds o' = false := by
  rw [Line.holds_eq_false_iff] at absent ⊢
  exact fun mem => absent ((Line.telegrams_withdraw o l).subset mem)

/-! ### Operations of the coordinator: report and queue -/

section
variable {s : State} {p : Nat} {e : Entry}

theorem recordFollows_eq (p : Nat) (s : State) :
    s.recordFollows p = { s with
      report := { s.report with findings := changeActive (pairKey p) (Finding.followed p) s.report.findings }
      line := if s.report.findings.any fun r =>
          r.key == pairKey p && r.status.isActive && r.holder == .self && !r.announced
        then s.line.withdraw (.finding (pairKey p)) else s.line } := by
  unfold State.recordFollows
  dsimp only
  split <;> rfl

theorem becomeFollower_report (p : Nat) (s : State) :
    (s.becomeFollower p).report
      = { s.report with findings := changeActive (pairKey p) (Finding.followed p) s.report.findings } := by
  rw [State.becomeFollower, recordFollows_eq]
  change { (s.withdrawIfClaiming p).report with
    findings := changeActive (pairKey p) (Finding.followed p) (s.withdrawIfClaiming p).report.findings } = _
  rw [withdrawIfClaiming_report]

theorem becomeFollower_line (p : Nat) (s : State) :
    (s.becomeFollower p).line =
      if s.report.findings.any fun r => r.key == pairKey p && r.status.isActive && r.holder == .self && !r.announced
      then (s.withdrawIfClaiming p).line.withdraw (.finding (pairKey p)) else (s.withdrawIfClaiming p).line := by
  rw [State.becomeFollower, recordFollows_eq]
  change (if (s.withdrawIfClaiming p).report.findings.any _ then _ else _) = _
  rw [withdrawIfClaiming_report]
  rfl

/-- The active record of a pair that becomes FOLLOWER is the partner's and announced, and no finding telegram waits that
was untold (R161). -/
theorem becomeFollower_record {r : Finding} (mem : r ∈ s.report.findings) (same : r.key = pairKey p)
    (active : r.status.isActive = true) :
    r.followed p ∈ (s.becomeFollower p).report.findings
      ∧ (r.holder = .self → r.announced = false → (s.becomeFollower p).line.holds (.finding (pairKey p)) = false) := by
  refine ⟨?_, fun self untold => ?_⟩
  · rw [becomeFollower_report]
    exact mem_changeActive (Finding.followed_key p) mem same active (Finding.done_of_active active)
  · rw [becomeFollower_line, if_pos]
    · exact withdraw_holds _ _
    · exact List.any_eq_true.mpr ⟨r, mem, by simp [same, active, self, untold]⟩

theorem withdrawIfClaiming_dropped (found : s.entry p = some e) (claiming : e.ownership = .claiming) :
    (s.withdrawIfClaiming p).line.holds (.claim p) = false := by
  rw [withdrawIfClaiming_line, found, Option.any_some, if_pos (by simp [claiming])]
  exact withdraw_holds (.claim p) s.line

theorem becomeFollower_dropped (found : s.entry p = some e) (claiming : e.ownership = .claiming) :
    (s.becomeFollower p).line.holds (.claim p) = false := by
  have dropped := withdrawIfClaiming_dropped found claiming
  rw [becomeFollower_line]
  split
  · exact withdraw_holds_of_not dropped
  · exact dropped

/-- A FOLLOWER that comes to claim has the holder SELF on its record; nothing else changes there (R161). -/
theorem unfollow_report (found : s.entry p = some e) :
    (s.unfollow p).report =
      if e.ownership = .follower ∧ s.running = true ∧ e.pair.state.confirmedOrRecovering = true then
        { s.report with findings := changeActive (pairKey p) Finding.claimed s.report.findings }
      else s.report := by
  unfold State.unfollow
  rw [found, Option.any_some]
  by_cases follower : e.ownership = .follower
  · have unheld : (s.modEntry p fun e => { e with ownership := .unheld }).entry p = some { e with ownership := .unheld } := by
      rw [State.entry_update (s := s) (p := p) (f := fun e => { e with ownership := .unheld }) rfl fun _ => rfl, if_pos rfl,
        found]
      rfl
    rw [if_pos (by simp [follower]), State.becomeUnheld, testClaim_of_entry unheld]
    by_cases claims : s.running = true ∧ e.pair.state.confirmedOrRecovering = true
    · rw [if_pos (by simpa using claims), if_pos ⟨follower, claims⟩]
      rfl
    · rw [if_neg (by simpa using claims), if_neg fun h => claims h.2]
      rfl
  · rw [if_neg (by simpa using follower), if_neg fun h => follower h.1]

theorem unfollow_of_other (found : s.entry p = some e) (other : e.ownership ≠ .follower) : s.unfollow p = s := by
  unfold State.unfollow
  rw [found, Option.any_some, if_neg (by simpa using other)]

end

end Sys2Proof.Machine
end

/-! What a digest does: to the entry of a known peer (O32, O33), or of a newcomer (O34). -/

section
namespace Sys2Proof.Machine

/-! ### Work on one pair within a command -/

section
variable {p : Nat} {s t u : State}

/-- Work on a pair after a change of the line that leaves the queue alone. -/
theorem OnlyPair.after_line (only : OnlyLine s u) (queue : u.line.queue = s.line.queue)
    (pending : u.line.restartPending = s.line.restartPending) (h : OnlyPair p u t) : OnlyPair p s t where
  toKeepsCore := only.toKeepsCore.trans h.toKeepsCore
  entries g other := (h.entries g other).trans (by rw [only.table])
  records f other := (h.records f other).trans (by rw [only.findings])
  queue q claim finding := (h.queue q claim finding).trans (by rw [queue])
  saturated := h.saturated.trans (by rw [only.table])
  duplicateTimer := h.duplicateTimer.trans (by rw [only.table])
  restartPending := h.restartPending.trans pending

/-- Work on a pair before a change of the line that leaves the queue alone. -/
theorem OnlyPair.before_line (h : OnlyPair p s t) (only : OnlyLine t u) (queue : u.line.queue = t.line.queue)
    (pending : u.line.restartPending = t.line.restartPending) : OnlyPair p s u where
  toKeepsCore := h.toKeepsCore.trans only.toKeepsCore
  entries g other := Iff.trans (by rw [only.table]) (h.entries g other)
  records f other := Iff.trans (by rw [only.findings]) (h.records f other)
  queue q claim finding := Iff.trans (by rw [queue]) (h.queue q claim finding)
  saturated := Eq.trans (by rw [only.table]) h.saturated
  duplicateTimer := Eq.trans (by rw [only.table]) h.duplicateTimer
  restartPending := pending.trans h.restartPending

theorem beginBackoff_eq (l : Line) :
    l.beginBackoff = { l with backoff := l.beginBackoff.backoff, draws := l.beginBackoff.draws } := by
  unfold Line.beginBackoff
  split <;> rfl

/-- A count that begins after a command changes the backoff alone. -/
theorem access_eq (s : State) :
    s.access = s.modLine fun l => { l with backoff := s.access.line.backoff, draws := s.access.line.draws } := by
  by_cases runs : s.lineRuns = true
  · rw [access_of_runs runs]
    exact congrArg (fun l => { s with line := l }) (beginBackoff_eq s.line)
  · rw [State.access, if_neg runs]
    rfl

theorem access_onlyLine (s : State) : OnlyLine s s.access.driveLines := by
  rw [access_eq]
  exact onlyLine_of_eq rfl

theorem access_line_queue (s : State) : s.access.line.queue = s.line.queue := by
  rw [access_eq]
  rfl

theorem access_line_received (s : State) : s.access.line.received = s.line.received := by
  rw [access_eq]
  rfl

theorem access_line_pending (s : State) : s.access.line.restartPending = s.line.restartPending := by
  rw [access_eq]
  rfl

theorem OnlyPair.access (h : OnlyPair p s t) : OnlyPair p s t.access.driveLines :=
  h.before_line (access_onlyLine t) (access_line_queue t) (access_line_pending t)

end

/-! ### A digest that concerns the table -/

/-- A digest of a station of the plant within its bounds is looked at (R82 to R86). -/
theorem takeDigest_of_concern {s : State} {source : Nat} {d : Digest} (runs : s.running = true) (foreign : source ≠ s.own)
    (low : 1 ≤ source) (high : source ≤ 59) (zones : d.zoneCount ≤ 4) (holders : d.holderCount ≤ 8) :
    s.takeDigest source d = if (s.entry source).isSome then s.digestFromKnown source (s.cfg.matchSet d.zones) d
      else s.digestFromUnknown source (s.cfg.matchSet d.zones) d := by
  unfold State.takeDigest
  rw [if_neg (by simp [runs]), if_neg (by simpa using foreign), if_neg (by simp; omega), if_neg (by simp; omega)]

/-! ### An entry removed (R88, R95) -/

section
variable {s : State} {p : Nat} {e : Entry}

theorem removeEntry_flags (p : Nat) (s : State) : (s.removeEntry p).report.flags = s.report.flags := by
  cases found : s.entry p with
  | none => simp [State.removeEntry, found]
  | some e =>
    rw [removeEntry_report found]
    unfold State.endCandidate
    split <;> rfl

/-- The record of a candidate that was confirmed is withdrawn, any other is left (R73, R162). -/
theorem removeEntry_findings (found : s.entry p = some e) :
    (s.removeEntry p).report.findings = if e.pair.state.confirmedOrRecovering = true then
      changeActive (pairKey p) Finding.withdrawn s.report.findings else s.report.findings := by
  rw [removeEntry_report found, endCandidate_report, (State.entry_spec found).2]
  rfl

theorem removeEntry_findings_of_ne (p : Nat) (s : State) {f : Finding} (other : f.key ≠ pairKey p) :
    f ∈ (s.removeEntry p).report.findings ↔ f ∈ s.report.findings := by
  cases found : s.entry p with
  | none => simp [State.removeEntry, found]
  | some e =>
    rw [removeEntry_findings found]
    split
    · exact mem_changeActive_of_ne Finding.withdrawn_key other
    · rfl

theorem withdrawIfClaiming_queue_of_ne (p : Nat) (s : State) {q : Queued} (other : q.telegram ≠ .claim p) :
    q ∈ (s.withdrawIfClaiming p).line.queue ↔ q ∈ s.line.queue := by
  rw [withdrawIfClaiming_line]
  split
  · exact Line.mem_withdraw_of_ne other
  · rfl

end

/-- Settles O33: the entry that matches no longer is removed. -/
theorem digestRemovesEntry : Obligations.DigestRemovesEntry := by
  intro s source d rest e runs idle head foreign low high zones holders found unmatched
  have answer := execDigestTaken_eq (running_lineRuns runs) idle head
  generalize popped : (s.modLine fun l => { l with received := rest }) = u at answer
  have found' : u.entry source = some e := by rw [← popped]; exact found
  have taken : u.takeDigest source d = u.removeEntry source := by
    rw [takeDigest_of_concern (by rw [← popped]; exact runs) (by rw [← popped]; exact foreign) low high zones holders,
      if_pos (by simp [found']), State.digestFromKnown, if_pos (by rw [← popped]; exact List.isEmpty_iff.mpr unmatched)]
  rw [taken] at answer
  have report : u.report = s.report := by rw [← popped]; rfl
  have findings := removeEntry_findings found'
  rw [report] at findings
  refine ⟨_, answer, ?_, ?_, ?_, fun claiming => ?_, fun idleCandidate => ?_, fun confirmed => ?_, fun f other => ?_,
    fun q other => ?_, ?_⟩
  · refine .trans ?_ (access_onlyLine _).toKeepsCore
    rw [← popped]
    exact (KeepsCore.modLine _ s).trans (removeEntry_keepsCore ..)
  · refine ((access_onlyLine _).table).trans ((removeEntry_table found').trans ?_)
    rw [← popped]
    refine congrArg (fun l => { s.table with entries := l, saturated := false }) (List.filter_congr fun f _ => ?_)
    by_cases same : f.station = source <;> simp [same]
  · exact ((access_onlyLine _).flags).trans ((removeEntry_flags source u).trans (congrArg Report.flags report))
  · have dropped := withdrawIfClaiming_dropped found' claiming
    rw [← removeEntry_line] at dropped
    exact (Line.holds_congr (access_line_queue _)).trans dropped
  · rw [if_neg (by simp [idleCandidate])] at findings
    exact (access_onlyLine _).findings.trans findings
  · rw [if_pos confirmed] at findings
    exact recordWithdrawn_of_changed ((access_onlyLine _).findings.trans findings)
  · rw [(access_onlyLine _).findings, removeEntry_findings_of_ne source u other, report]
  · change q ∈ (u.removeEntry source).access.line.queue ↔ _
    rw [access_line_queue, removeEntry_line, withdrawIfClaiming_queue_of_ne source u other, ← popped]
    rfl
  · refine (access_line_received _).trans (((removeEntry_course source u).received).trans ?_)
    rw [← popped]
    rfl

/-! ### A newcomer admitted (R89, R131) -/

/-- The entry of a newcomer after its holder list has been read. -/
def welcomedEntry (s : State) (source : Nat) (d : Digest) : Entry :=
  { station := source, matchSet := s.cfg.matchSet d.zones, lastDigest := d.summary, age := 0
    pair := ⟨0, .clear, none⟩, ownership := if s.own ∈ d.holders then .follower else .unheld, claimAttempts := 0
    reservedOwn := s.eval.epoch, reservedPeer := d.summary.epoch }

/-- What an admission makes of a state (R89, R131). -/
structure Welcomed (source : Nat) (d : Digest) (s t : State) : Prop where
  table : t.table = { s.table with entries := s.table.entries ++ [welcomedEntry s source d], saturated := false }
  flags : t.report.flags = s.report.flags
  unlisted : s.own ∉ d.holders → t.report = s.report ∧ t.line = s.line
  findings : ∀ f : Finding, (s.own ∈ d.holders → f.key ≠ pairKey source) → (f ∈ t.report.findings ↔ f ∈ s.report.findings)
  queue : ∀ q : Queued, (s.own ∈ d.holders → q.telegram ≠ .finding (pairKey source)) →
    (q ∈ t.line.queue ↔ q ∈ s.line.queue)
  listed : s.own ∈ d.holders → ∀ f ∈ t.report.findings, f.key = pairKey source → f.status.isActive = true →
    f.holder = .partner source ∧ f.announced = true

theorem withdrawIfClaiming_of_free {s : State} {p : Nat} {e : Entry} (found : s.entry p = some e)
    (free : e.ownership ≠ .claiming) : s.withdrawIfClaiming p = s := by
  unfold State.withdrawIfClaiming
  rw [found, Option.any_some, if_neg (by simpa using free)]

/-- What the record list of a pair that has become FOLLOWER holds of the pair (R161). -/
theorem becomeFollower_listed {s : State} {p : Nat} {f : Finding} (mem : f ∈ (s.becomeFollower p).report.findings)
    (key : f.key = pairKey p) (active : f.status.isActive = true) : f.holder = .partner p ∧ f.announced = true := by
  rw [becomeFollower_report] at mem
  rcases of_mem_changeActive (Finding.followed_key p) mem key with ⟨r, -, -, -, rfl⟩ | idle
  · exact ⟨rfl, rfl⟩
  · rw [active] at idle
    cases idle

/-- Admission: the newcomer joins, and becomes FOLLOWER where its holder list bears the own number. -/
theorem enrol_welcomed {s : State} {source : Nat} {d : Digest} (absent : s.entry source = none) :
    Welcomed source d s ((s.enrol source (s.cfg.matchSet d.zones) d.summary).processHolders source d.holders) := by
  have strangers : ∀ e ∈ s.table.entries, e.station ≠ source := State.entry_eq_none_iff.mp absent
  generalize joined : s.enrol source (s.cfg.matchSet d.zones) d.summary = u
  have own : u.own = s.own := by rw [← joined]; rfl
  have found : u.entry source = some (newEntry s.eval.epoch source (s.cfg.matchSet d.zones) d.summary) := by
    rw [← joined]
    change (s.table.entries ++ [newEntry s.eval.epoch source (s.cfg.matchSet d.zones) d.summary]).find? _ = _
    rw [List.find?_append, show s.table.entries.find? (fun e => e.station == source) = none from absent]
    simp [newEntry]
  by_cases listed : s.own ∈ d.holders
  · have follows : u.processHolders source d.holders = u.becomeFollower source := by
      rw [State.processHolders, if_pos (by simpa [own] using listed), State.listedBy, found]
      rfl
    rw [follows]
    have table : (u.becomeFollower source).table = u.table.update source fun e => { e with ownership := .follower } := by
      rw [State.becomeFollower, recordFollows_table, withdrawIfClaiming_of_free found (by simp [newEntry])]
      rfl
    refine ⟨?_, ?_, fun unlisted => absurd listed unlisted, fun f other => ?_, fun q other => ?_,
      fun _ f mem key active => becomeFollower_listed mem key active⟩
    · have others : (s.table.entries.map fun e => if e.station == source then { e with ownership := .follower } else e)
          = s.table.entries :=
        (List.map_congr_left fun e mem => by rw [if_neg (by simpa using strangers e mem)]).trans (List.map_id' _)
      rw [table, ← joined]
      simp only [State.enrol, State.modTable_table, NeighbourTable.update, List.map_append, others, welcomedEntry,
        if_pos listed]
      simp [newEntry, Scored.cleared]
    · rw [becomeFollower_report, ← joined]
      rfl
    · rw [becomeFollower_report]
      refine (mem_changeActive_of_ne (Finding.followed_key source) (other listed)).trans ?_
      rw [← joined]
      rfl
    · rw [becomeFollower_line, withdrawIfClaiming_of_free found (by simp [newEntry])]
      have same : u.line = s.line := by rw [← joined]; rfl
      split
      · exact (Line.mem_withdraw_of_ne (other listed)).trans (by rw [same])
      · rw [same]
  · have stays : u.processHolders source d.holders = u := by
      rw [State.processHolders, if_neg (by simpa [own] using listed), unfollow_of_other found (by simp [newEntry])]
    rw [stays, ← joined]
    refine ⟨?_, rfl, fun _ => ⟨rfl, rfl⟩, fun _ _ => .rfl, fun _ _ => .rfl, fun h => absurd h listed⟩
    rw [welcomedEntry, if_neg listed]
    rfl

theorem RecordWithdrawn.congr {k : Key} {s s' t t' : State} (h : RecordWithdrawn k s t)
    (before : s.report.findings = s'.report.findings)
    (after : ∀ f : Finding, f.key = k → (f ∈ t'.report.findings ↔ f ∈ t.report.findings)) : RecordWithdrawn k s' t' := by
  obtain ⟨idle, kept⟩ := h
  rw [before] at kept
  refine ⟨fun f mem key => idle f ((after f key).mp mem) key, fun f mem key active => ?_⟩
  intro w stays
  exact (after w key).mpr (kept f mem key active stays)

/-- Settles O34: admission at the tail of the table, after an eviction where it is full, or refusal. -/
theorem digestFromUnknownPeer : Obligations.DigestFromUnknownPeer := by
  intro s source d rest runs idle head foreign low high zones holders absent matched newcomer
  have answer := execDigestTaken_eq (running_lineRuns runs) idle head
  generalize popped : (s.modLine fun l => { l with received := rest }) = u at answer
  have absent' : u.entry source = none := by rw [← popped]; exact absent
  have taken : u.takeDigest source d = u.digestFromUnknown source (u.cfg.matchSet d.zones) d := by
    rw [takeDigest_of_concern (by rw [← popped]; exact runs) (by rw [← popped]; exact foreign) low high zones holders,
      if_neg (by simp [absent'])]
  have unmatched : (u.cfg.matchSet d.zones).isEmpty = false := by
    rw [← popped]
    exact List.isEmpty_eq_false_iff.mpr matched
  have ending := access_onlyLine (u.takeDigest source d)
  have queue := access_line_queue (u.takeDigest source d)
  have table : u.table = s.table := by rw [← popped]; rfl
  have report : u.report = s.report := by rw [← popped]; rfl
  have newcomers : ∀ v : State, KeepsCore u v → welcomedEntry v source d = newcomer := fun v core => by
    rw [welcomedEntry, core.cfg, core.own, core.eval, ← popped]
    rfl
  have admitted : s.table.entries.length < 8 → Welcomed source d u (u.takeDigest source d) := fun few => by
    rw [taken, State.digestFromUnknown, if_neg (by simp [unmatched]), if_pos (by rw [table]; exact few)]
    exact enrol_welcomed absent'
  have replaced : 8 ≤ s.table.entries.length → ∀ old, s.table.evictable = some old →
      Welcomed source d (u.removeEntry old.station) (u.takeDigest source d) := fun many old evict => by
    rw [taken, State.digestFromUnknown, if_neg (by simp [unmatched]), if_neg (by rw [table]; omega), table, evict,
      ← (removeEntry_keepsCore old.station u).cfg]
    exact enrol_welcomed (removeEntry_absent absent')
  have refused : 8 ≤ s.table.entries.length → s.table.evictable = none →
      u.takeDigest source d = u.refuseNeighbour := fun many stay => by
    rw [taken, State.digestFromUnknown, if_neg (by simp [unmatched]), if_neg (by rw [table]; omega), table, stay]
  refine ⟨_, answer, ?_, ?_, fun listed stands f mem key active => ?_, fun few => ?_, fun many old evict => ?_,
    fun many stay => ?_⟩
  · rw [← popped]
    exact ((KeepsCore.modLine _ s).trans (takeDigest_keepsCore ..)).trans (access_onlyLine _).toKeepsCore
  · refine (access_line_received _).trans
      (((courseLaw u.line).takeDigest source d (.refl _)).received.trans ?_)
    rw [← popped]
    rfl
  · rw [ending.findings] at mem
    by_cases few : s.table.entries.length < 8
    · exact (admitted few).listed (by rw [← popped]; exact listed) f mem key active
    · cases evict : s.table.evictable with
      | some old =>
        refine (replaced (by omega) old evict).listed ?_ f mem key active
        rw [(removeEntry_keepsCore old.station u).own, ← popped]
        exact listed
      | none =>
        rw [State.entry, ending.table, refused (by omega) evict] at stands
        rw [show (u.refuseNeighbour.table.find source) = none from absent'] at stands
        cases stands
  · have welcomed := admitted few
    refine ⟨?_, ?_, fun unlisted => ?_, fun f other => ?_, fun q other => ?_⟩
    · rw [ending.flags, welcomed.flags, report]
    · rw [ending.table, welcomed.table, newcomers u (.refl u), table]
    · obtain ⟨sameReport, sameLine⟩ := welcomed.unlisted (by rw [← popped]; exact unlisted)
      refine ⟨⟨by rw [ending.findings, sameReport, report], by rw [ending.flags, sameReport, report]⟩, queue.trans ?_⟩
      rw [sameLine, ← popped]
      rfl
    · rw [ending.findings, welcomed.findings f fun _ => other, report]
    · refine Iff.trans (by rw [← queue]; rfl) ((welcomed.queue q fun _ => other).trans ?_)
      rw [← popped]
      rfl
  · have welcomed := replaced many old evict
    have present : (u.entry old.station).isSome := evictable_present (by rw [table]; exact evict)
    obtain ⟨e, found⟩ := Option.isSome_iff_exists.mp present
    have core := removeEntry_keepsCore old.station u
    have own : (u.removeEntry old.station).own = s.own := by rw [core.own, ← popped]; rfl
    refine ⟨?_, ?_, fun same confirmed => ?_, fun f other listed => ?_, fun q other listed => ?_⟩
    · rw [ending.flags, welcomed.flags, removeEntry_flags, report]
    · have others : ((u.removeEntry old.station).table.entries) = s.table.entries.filter fun f => f.station ≠ old.station := by
        rw [removeEntry_entries, table]
        refine List.filter_congr fun f _ => ?_
        by_cases same : f.station = old.station <;> simp [same]
      rw [ending.table, welcomed.table, newcomers _ core, others, removeEntry_table found, table]
    · have found' : u.entry old.station = some old := by rw [← popped]; exact same
      have withdrawn : RecordWithdrawn (pairKey old.station) u (u.removeEntry old.station) :=
        recordWithdrawn_of_changed (by rw [removeEntry_findings found', if_pos confirmed])
      have other : pairKey old.station ≠ pairKey source := fun same => by
        have station : old.station = source := congrArg Key.subject same
        rw [station, absent'] at found'
        cases found'
      refine withdrawn.congr (by rw [report]) fun f key => ?_
      rw [ending.findings]
      exact welcomed.findings f fun _ => key ▸ other
    · rw [ending.findings, welcomed.findings f (by rw [own]; exact listed), removeEntry_findings_of_ne _ _ other, report]
    · refine Iff.trans (by rw [← queue]; rfl) ((welcomed.queue q (by rw [own]; exact listed)).trans ?_)
      rw [removeEntry_line, withdrawIfClaiming_queue_of_ne _ _ other, ← popped]
      rfl
  · rw [refused many stay] at ending queue ⊢
    refine ⟨?_, ?_, ?_, ?_, ?_⟩
    · rw [ending.table, ← popped]
      rfl
    · have follows : u.linesFollow = true := by
        rw [← popped]
        exact Bool.or_eq_true_iff.mpr (.inl runs)
      have level : (u.linesFollow && ((u.halted || decide (0 < u.table.duplicateTimer)) || true)) = true := by
        simp [follows]
      rw [access_eq]
      exact level
    · rw [ending.flags, ← popped]
      rfl
    · rw [ending.findings, ← popped]
      rfl
    · refine queue.trans ?_
      rw [← popped]
      rfl

/-! ### Holder lists and restart flags (R87, R131, R132, R161) -/

section
variable {s : State} {p : Nat} {e : Entry}

/-- The own number in the holder list: what is not FOLLOWER becomes it, but a HOLDER with the lower number (R131). -/
theorem listedBy_eq (found : s.entry p = some e) :
    s.listedBy p = if e.ownership = .follower ∨ (e.ownership = .holder ∧ s.own < p) then s else s.becomeFollower p := by
  simp only [State.listedBy, found]
  cases e.ownership <;> simp

theorem testClaim_flags (p : Nat) (s : State) : (s.testClaim p).report.flags = s.report.flags := by
  unfold State.testClaim
  split
  · rfl
  · split <;> rfl

theorem becomeFollower_flags (p : Nat) (s : State) : (s.becomeFollower p).report.flags = s.report.flags := by
  rw [becomeFollower_report]

theorem unfollow_flags (p : Nat) (s : State) : (s.unfollow p).report.flags = s.report.flags := by
  unfold State.unfollow
  split
  · exact testClaim_flags p _
  · rfl

theorem processHolders_flags (p : Nat) (holders : List Nat) (s : State) :
    (s.processHolders p holders).report.flags = s.report.flags := by
  unfold State.processHolders
  split
  · unfold State.listedBy
    split
    · rfl
    · split
      · exact becomeFollower_flags p s
      · exact becomeFollower_flags p s
      · rfl
      · split
        · rfl
        · exact becomeFollower_flags p s
  · exact unfollow_flags p s

/-- The active record of a pair whose FOLLOWER comes to claim (R161). -/
theorem unfollow_record (found : s.entry p = some e) (runs : s.running = true) {r : Finding} (mem : r ∈ s.report.findings)
    (key : r.key = pairKey p) (active : r.status.isActive = true) :
    (if e.ownership = .follower ∧ e.pair.state.confirmedOrRecovering = true then r.claimed else r)
      ∈ (s.unfollow p).report.findings := by
  rw [unfollow_report found]
  by_cases claims : e.ownership = .follower ∧ e.pair.state.confirmedOrRecovering = true
  · rw [if_pos claims, if_pos ⟨claims.1, runs, claims.2⟩]
    exact mem_changeActive Finding.claimed_key mem key active (Finding.done_of_active active)
  · rw [if_neg claims, if_neg fun h => claims ⟨h.1, h.2.2⟩]
    exact mem

/-- The ownership that a holder list leaves (R131, R132). -/
theorem heed_ownership (own : Nat) (holders : List Nat) (e : Entry) :
    (e.heed true own p holders).ownership =
      if own ∈ holders then if e.ownership = .holder ∧ own < p then .holder else .follower
      else if e.ownership = .follower then if e.pair.state.confirmedOrRecovering = true then .claiming else .unheld
      else e.ownership := by
  by_cases listed : own ∈ holders
  · rw [Entry.heed, if_pos (by simpa using listed), if_pos listed]
    by_cases lower : own < p <;> cases owned : e.ownership <;> simp [Entry.listed, owned, lower]
  · rw [Entry.heed, if_neg (by simpa using listed), if_neg listed]
    cases confirmed : e.pair.state.confirmedOrRecovering <;> cases owned : e.ownership <;>
      simp [Entry.unfollow, Entry.unhold, Entry.claim, owned, confirmed]

/-- An entry of which the pair coordinator has changed its own fields alone. -/
def Entry.SameContent (e f : Entry) : Prop := f = { e with ownership := f.ownership, claimAttempts := f.claimAttempts }

theorem Entry.SameContent.refl (e : Entry) : e.SameContent e := rfl

theorem Entry.SameContent.trans {e f g : Entry} (h : e.SameContent f) (k : f.SameContent g) : e.SameContent g := by
  rw [Entry.SameContent] at *
  rw [k, h]

theorem Entry.claim_sameContent (running : Bool) (e : Entry) : e.SameContent (e.claim running) := by
  unfold Entry.claim
  split <;> rfl

theorem Entry.follow_sameContent (e : Entry) : e.SameContent e.follow := by
  unfold Entry.follow Entry.dropClaim
  split <;> rfl

theorem Entry.unfollow_sameContent (running : Bool) (e : Entry) : e.SameContent (e.unfollow running) := by
  unfold Entry.unfollow Entry.unhold
  split
  · exact .trans (show e.SameContent { e with ownership := .unheld } from rfl) (Entry.claim_sameContent running _)
  · rfl

theorem Entry.heed_sameContent (running : Bool) (own p : Nat) (holders : List Nat) (e : Entry) :
    e.SameContent (e.heed running own p holders) := by
  unfold Entry.heed
  split
  · unfold Entry.listed
    split
    · exact e.follow_sameContent
    · exact e.follow_sameContent
    · rfl
    · split
      · rfl
      · exact e.follow_sameContent
  · exact e.unfollow_sameContent running

/-- A holder list that leaves an ownership other than FOLLOWER as it is leaves the entry as it is. -/
theorem heed_of_same {own : Nat} {holders : List Nat} {e : Entry} (other : e.ownership ≠ .follower)
    (same : (e.heed true own p holders).ownership = e.ownership) : e.heed true own p holders = e := by
  by_cases listed : holders.contains own = true
  · rw [Entry.heed, if_pos listed] at same ⊢
    cases owned : e.ownership with
    | unheld => simp [Entry.listed, owned] at same
    | claiming => simp [Entry.listed, owned] at same
    | follower => exact absurd owned other
    | holder =>
      by_cases lower : own < p
      · simp [Entry.listed, owned, lower]
      · simp [Entry.listed, owned, lower] at same
  · rw [Entry.heed, if_neg listed]
    exact if_neg (by simpa using other)

/-- A holder list read: the active record follows the ownership (R131, R132, R161). -/
theorem processHolders_record (found : s.entry p = some e) (runs : s.running = true) {holders : List Nat} {r : Finding}
    (mem : r ∈ s.report.findings) (key : r.key = pairKey p) (active : r.status.isActive = true) :
    (if (e.heed true s.own p holders).ownership = .follower ∧ e.ownership ≠ .follower then r.followed p
      else if (e.heed true s.own p holders).ownership = .claiming ∧ e.ownership = .follower then r.claimed
      else r) ∈ (s.processHolders p holders).report.findings
    ∧ ((e.heed true s.own p holders).ownership = .follower ∧ e.ownership ≠ .follower → r.holder = .self →
        r.announced = false → (s.processHolders p holders).line.holds (.finding (pairKey p)) = false) := by
  rw [heed_ownership]
  by_cases listed : s.own ∈ holders
  · rw [State.processHolders, if_pos (by simpa using listed), listedBy_eq found, if_pos listed]
    by_cases stays : e.ownership = .holder ∧ s.own < p
    · simp [stays, mem]
    · by_cases follower : e.ownership = .follower
      · simp [follower, mem]
      · rw [if_neg stays, if_neg (not_or.mpr ⟨follower, stays⟩), if_pos ⟨rfl, follower⟩]
        obtain ⟨followed, quiet⟩ := becomeFollower_record mem key active
        exact ⟨followed, fun _ => quiet⟩
  · rw [State.processHolders, if_neg (by simpa using listed), if_neg listed]
    have record := unfollow_record found runs mem key active
    by_cases follower : e.ownership = .follower
    · simp only [follower, true_and, if_true, ne_eq, not_true_eq_false, and_false, if_false, and_true, false_implies] at record ⊢
      cases confirmed : e.pair.state.confirmedOrRecovering <;> simpa [confirmed] using record
    · rw [unfollow_of_other found follower]
      simp [follower, mem]

/-- The entry of a known peer brought up to date by a digest (R86, R87). -/
def Entry.refreshed (places : List Nat) (d : Summary) (e : Entry) : Entry :=
  { e with matchSet := places, lastDigest := d, age := 0 }

end

section
variable {s : State} {p : Nat} {e : Entry}

/-- The restart flag of a digest heard (R87, R132). -/
def State.heedRestart (p : Nat) (restart : Bool) (s : State) : State := if restart then s.unfollow p else s

/-- The restart flag heard on the entry. -/
def Entry.heedRestart (restart : Bool) (e : Entry) : Entry := if restart then e.unfollow true else e

theorem heedRestart_work (p : Nat) (restart : Bool) (s : State) : PairWork p s (s.heedRestart p restart) := by
  unfold State.heedRestart
  split
  · exact unfollow_work p s
  · exact .refl s

theorem heedRestart_table (distinct : s.StationsDistinct) (runs : s.running = true) (p : Nat) (restart : Bool) :
    (s.heedRestart p restart).table = s.table.update p (Entry.heedRestart restart) := by
  cases restart with
  | true =>
    refine (unfollow_table distinct p).trans ?_
    rw [runs]
    rfl
  | false => exact (NeighbourTable.update_eq_self fun _ _ _ => rfl).symm

theorem heedRestart_flags (p : Nat) (restart : Bool) (s : State) :
    (s.heedRestart p restart).report.flags = s.report.flags := by
  unfold State.heedRestart
  split
  · exact unfollow_flags p s
  · rfl

theorem Entry.heedRestart_sameContent (restart : Bool) (e : Entry) : e.SameContent (e.heedRestart restart) := by
  unfold Entry.heedRestart
  split
  · exact e.unfollow_sameContent true
  · rfl

theorem heedRestart_of_other (other : e.ownership ≠ .follower) (restart : Bool) : e.heedRestart restart = e := by
  unfold Entry.heedRestart
  split
  · exact if_neg (by simpa using other)
  · rfl

/-- A FOLLOWER whose peer has restarted is released (R87). -/
theorem heedRestart_of_follower (follower : e.ownership = .follower) :
    (e.heedRestart true).ownership = if e.pair.state.confirmedOrRecovering = true then .claiming else .unheld := by
  cases confirmed : e.pair.state.confirmedOrRecovering <;>
    simp [Entry.heedRestart, Entry.unfollow, Entry.unhold, Entry.claim, follower, confirmed]

/-- The ownership that restart flag and holder list leave (R87, R131, R132). -/
theorem settled_ownership (own : Nat) (restart : Bool) (holders : List Nat) (e : Entry) :
    ((e.heedRestart restart).heed true own p holders).ownership =
      if own ∈ holders then if e.ownership = .holder ∧ own < p then .holder else .follower
      else if e.ownership = .follower then if e.pair.state.confirmedOrRecovering = true then .claiming else .unheld
      else e.ownership := by
  rw [heed_ownership]
  by_cases released : restart = true ∧ e.ownership = .follower
  · obtain ⟨rfl, follower⟩ := released
    rw [heedRestart_of_follower follower, follower]
    cases e.pair.state.confirmedOrRecovering <;> simp
  · have same : e.heedRestart restart = e := by
      cases restart with
      | false => rfl
      | true => exact heedRestart_of_other (fun follower => released ⟨rfl, follower⟩) true
    rw [same]

/-- The active record after restart flag and holder list (R161). -/
theorem settled_record (found : s.entry p = some e) (distinct : s.StationsDistinct) (runs : s.running = true) (restart : Bool)
    {holders : List Nat} {r : Finding} (mem : r ∈ s.report.findings) (key : r.key = pairKey p)
    (active : r.status.isActive = true) {f : Entry} (settled : (e.heedRestart restart).heed true s.own p holders = f) :
    (if f.ownership = .follower ∧ (e.ownership ≠ .follower ∨ restart = true) then r.followed p
      else if f.ownership = .claiming ∧ e.ownership = .follower then r.claimed
      else r) ∈ ((s.heedRestart p restart).processHolders p holders).report.findings
    ∧ (f.ownership = .follower ∧ (e.ownership ≠ .follower ∨ restart = true) → r.holder = .self → r.announced = false →
        ((s.heedRestart p restart).processHolders p holders).line.holds (.finding (pairKey p)) = false) := by
  subst settled
  have core := (heedRestart_work p restart s).only.toKeepsCore
  have found' : (s.heedRestart p restart).entry p = some (e.heedRestart restart) := by
    rw [State.entry_update (heedRestart_table distinct runs p restart) fun e => (e.heedRestart_sameContent restart) ▸ rfl,
      if_pos rfl, found]
    rfl
  have runs' : (s.heedRestart p restart).running = true := core.running.trans runs
  by_cases released : restart = true ∧ e.ownership = .follower
  · obtain ⟨rfl, follower⟩ := released
    have record := unfollow_record found runs mem key active
    generalize claimed : (if e.ownership = .follower ∧ e.pair.state.confirmedOrRecovering = true then r.claimed else r) = q
      at record
    have alike : q.key = r.key ∧ q.status = r.status ∧ q.followed p = r.followed p ∧ (r.holder = .self → q = r) := by
      rw [← claimed]
      split
      · refine ⟨rfl, rfl, rfl, fun self => ?_⟩
        rw [Finding.claimed, ← self]
      · exact ⟨rfl, rfl, rfl, fun _ => rfl⟩
    obtain ⟨sameKey, sameStatus, sameFollowed, sameSelf⟩ := alike
    have other : (e.heedRestart true).ownership ≠ .follower := by
      rw [heedRestart_of_follower follower]
      split <;> decide
    obtain ⟨settled, quiet⟩ := processHolders_record found' runs' (holders := holders) record (sameKey.trans key)
      (by rw [sameStatus]; exact active)
    rw [core.own] at settled quiet
    have ownership := settled_ownership (p := p) s.own true holders e
    generalize (e.heedRestart true).heed true s.own p holders = f at settled quiet ownership
    by_cases follows : f.ownership = .follower
    · rw [if_pos ⟨follows, other⟩, sameFollowed] at settled
      rw [if_pos ⟨follows, .inr rfl⟩]
      refine ⟨settled, fun _ self untold => quiet ⟨follows, other⟩ ?_ ?_⟩
      · rw [sameSelf self]; exact self
      · rw [sameSelf self]; exact untold
    · rw [if_neg fun h => follows h.1, if_neg fun h => other h.2] at settled
      rw [if_neg fun h => follows h.1]
      refine ⟨?_, fun h => absurd h.1 follows⟩
      have unlisted : s.own ∉ holders := fun listed => by
        rw [if_pos listed, follower, if_neg (by simp)] at ownership
        exact follows ownership
      rw [if_neg unlisted, if_pos follower] at ownership
      have claims : (f.ownership = .claiming ∧ e.ownership = .follower) ↔
          (e.ownership = .follower ∧ e.pair.state.confirmedOrRecovering = true) := by
        rw [ownership]
        cases e.pair.state.confirmedOrRecovering <;> simp [follower]
      rw [if_congr claims rfl rfl, claimed]
      exact settled
  · have same : e.heedRestart restart = e ∧ s.heedRestart p restart = s := by
      cases restart with
      | false => exact ⟨rfl, rfl⟩
      | true =>
        have other : e.ownership ≠ .follower := fun follower => released ⟨rfl, follower⟩
        exact ⟨heedRestart_of_other other true, unfollow_of_other found other⟩
    have either : ∀ f : Entry, (f.ownership = .follower ∧ (e.ownership ≠ .follower ∨ restart = true)) ↔
        (f.ownership = .follower ∧ e.ownership ≠ .follower) := fun f =>
      and_congr_right fun _ => or_iff_left_of_imp fun h follower => released ⟨h, follower⟩
    rw [same.1, same.2]
    simp only [either]
    exact processHolders_record found runs mem key active

end

/-- A law that every move keeps is kept by every command. -/
theorem exec_keeps {P : State → Prop} (each : ∀ s t, P s → Move s t → P t) (driven : ∀ s, P s → P s.driveLines)
    {c : Instr} {s t : State} (h : P s) (answer : exec c s = .next t) : P t := by
  obtain ⟨t', answer', what⟩ := (exec_answers s c).next
  obtain rfl : t' = t := by simpa using answer'.symm.trans answer
  rcases what with rfl | ⟨u, moves, rfl⟩
  · exact h
  · exact driven u (moves.keep each h)

/-- After any command a claim stands in the queue exactly for a CLAIMING entry. -/
theorem exec_claims {c : Instr} {s t : State} (h : s.QueueLawful) (answer : exec c s = .next t) (p : Nat) :
    t.line.holds (.claim p) = (t.entry p).any fun e => e.ownership == .claiming :=
  (exec_keeps (P := State.QueueKeeps 0) (fun _ _ => Move.queue) (fun _ h => h.congr rfl rfl)
    (State.queueLawful_iff.mp h) answer).claims p

/-- Settles O32: the entry brought up to date, the restart flag heard before the holder list. -/
theorem digestSettlesOwnership : Obligations.DigestSettlesOwnership := by
  intro s source d rest e runs idle lawful head foreign low high zones holders found matched
  have answer := execDigestTaken_eq (running_lineRuns runs) idle head
  have distinct : s.StationsDistinct := (State.queueLawful_iff.mp lawful).distinct
  generalize popped : (s.modLine fun l => { l with received := rest }) = u at answer
  have found' : u.entry source = some e := by rw [← popped]; exact found
  have runs' : u.running = true := by rw [← popped]; exact runs
  have cfg : u.cfg = s.cfg := by rw [← popped]; rfl
  have own : u.own = s.own := by rw [← popped]; rfl
  have report : u.report = s.report := by rw [← popped]; rfl
  generalize refreshed : u.modEntry source (Entry.refreshed (s.cfg.matchSet d.zones) d.summary) = v
  have taken : u.takeDigest source d = (v.heedRestart source d.restart).processHolders source d.holders := by
    rw [takeDigest_of_concern runs' (by rw [own]; exact foreign) low high zones holders, if_pos (by simp [found']),
      State.digestFromKnown, cfg, if_neg (by simpa using matched), ← refreshed]
    rfl
  rw [taken] at answer
  have fresh : PairWork source u v := refreshed ▸ .modEntry u (fun _ => rfl) fun _ => .inl rfl
  have vdistinct : v.StationsDistinct := fresh.frame.stationsDistinct (by rw [← popped]; exact distinct)
  have vruns : v.running = true := fresh.only.toKeepsCore.running.trans runs'
  have vown : v.own = s.own := fresh.only.toKeepsCore.own.trans own
  have vreport : v.report = s.report := by rw [← refreshed]; exact report
  have vfound : v.entry source = some (e.refreshed (s.cfg.matchSet d.zones) d.summary) := by
    rw [← refreshed, State.entry_update (s := u) (p := source)
      (f := Entry.refreshed (s.cfg.matchSet d.zones) d.summary) rfl fun _ => rfl, if_pos rfl, found']
    rfl
  generalize updated : e.refreshed (s.cfg.matchSet d.zones) d.summary = g at vfound
  have heard : PairWork source v (v.heedRestart source d.restart) := heedRestart_work source d.restart v
  have wfound : (v.heedRestart source d.restart).entry source = some (g.heedRestart d.restart) := by
    rw [State.entry_update (heedRestart_table vdistinct vruns source d.restart) fun e =>
      (e.heedRestart_sameContent d.restart) ▸ rfl, if_pos rfl, vfound]
    rfl
  have settles := processHolders_work source (v.heedRestart source d.restart) d.holders
  have work : PairWork source u ((v.heedRestart source d.restart).processHolders source d.holders) :=
    (fresh.trans heard).trans settles
  generalize settled : (g.heedRestart d.restart).heed true s.own source d.holders = f
  have tfound : ((v.heedRestart source d.restart).processHolders source d.holders).entry source = some f := by
    rw [State.entry_update (processHolders_table (heard.frame.stationsDistinct vdistinct) source d.holders) fun e =>
      (e.heed_sameContent _ _ _ _) ▸ rfl, if_pos rfl, wfound, heard.only.toKeepsCore.running, vruns,
      heard.only.toKeepsCore.own, vown, ← settled]
    rfl
  have ending := access_onlyLine ((v.heedRestart source d.restart).processHolders source d.holders)
  have content : g.SameContent f :=
    settled ▸ (Entry.heedRestart_sameContent d.restart g).trans (Entry.heed_sameContent true s.own source d.holders _)
  have ownership := settled_ownership (p := source) s.own d.restart d.holders g
  rw [settled] at ownership
  refine ⟨_, f, answer, ?_, ?_, ?_, ?_, ?_, ?_, ?_, ?_, fun other same => ?_, ?_, ?_, fun r mem key active => ?_, ?_, ?_, ?_⟩
  · rw [State.entry, ending.table]
    exact tfound
  · refine OnlyPair.after_line (u := u) ?_ ?_ ?_ work.only.access
    · rw [← popped]; exact ⟨⟨rfl, rfl, rfl, rfl, rfl, rfl⟩, ⟨rfl, rfl⟩, rfl⟩
    · rw [← popped]; rfl
    · rw [← popped]; rfl
  · rw [congrArg Entry.age content, ← updated]
    rfl
  · rw [congrArg Entry.lastDigest content, ← updated]
    rfl
  · rw [congrArg Entry.matchSet content, ← updated]
    rfl
  · rw [congrArg Entry.pair content, ← updated]
    rfl
  · rw [congrArg Entry.reservedOwn content, ← updated]
    rfl
  · rw [congrArg Entry.reservedPeer content, ← updated]
    rfl
  · have still : g.heedRestart d.restart = g := heedRestart_of_other (by rw [← updated]; exact other) d.restart
    rw [still] at settled
    have kept := heed_of_same (p := source) (own := s.own) (holders := d.holders) (e := g) (by rw [← updated]; exact other)
      (by rw [settled, same, ← updated]; rfl)
    rw [← settled, kept, ← updated]
    rfl
  · rw [ownership, ← updated]
    rfl
  · rw [exec_claims lawful answer source, State.entry, ending.table]
    change (State.entry _ source).any _ = true ↔ _
    rw [tfound, Option.any_some, beq_iff_eq]
  · obtain ⟨record, quiet⟩ := settled_record (f := f) vfound vdistinct vruns d.restart (holders := d.holders)
      (by rw [vreport]; exact mem) key active (by rw [vown]; exact settled)
    have owned : g.ownership = e.ownership := by rw [← updated]; rfl
    rw [owned] at record quiet
    rw [ending.findings]
    exact ⟨record, fun follows self untold =>
      (Line.holds_congr (access_line_queue _)).trans (quiet follows self untold)⟩
  · rw [ending.table, work.frame.stations, ← popped]
    rfl
  · rw [ending.flags, processHolders_flags, heedRestart_flags, vreport]
  · refine (access_line_received _).trans (work.frame.course.received.trans ?_)
    rw [← popped]
    rfl

end Sys2Proof.Machine
end

/-! Claims of a partner answered (O49), and the own claims settled, retried or spent (O50, O51). -/

section
namespace Sys2Proof.Machine

section
variable {s t : State} {p : Nat} {e : Entry}

theorem OnlyPair.driveLines (h : OnlyPair p s t) : OnlyPair p s t.driveLines :=
  h.before_line ⟨.driveLines t, ⟨rfl, rfl⟩, rfl⟩ rfl rfl

/-- Work on a pair after a change of the line, the queue and the restart mark as before. -/
theorem onlyPair_of_work {f : Line → Line} (queue : (f s.line).queue = s.line.queue)
    (pending : (f s.line).restartPending = s.line.restartPending) (work : PairWork p (s.modLine f) t) :
    OnlyPair p s t.driveLines :=
  (OnlyPair.after_line ⟨.modLine f s, ⟨rfl, rfl⟩, rfl⟩ queue pending work.only).driveLines

/-! ### A claim answered (R120, R122, R123) -/

/-- A claim outside an evaluation is decided by its answer. -/
theorem decideClaim_eq (idle : s.evaluating = false) (runs : s.running = true) {source : Nat} {seen : Byte}
    {answer : Option Mark} (answered : s.claimAnswer source seen = answer) :
    s.decideClaim source seen = if answer = some .concur then
        (s.modLine fun l => { l with mark := answer }).becomeFollower source
      else s.modLine fun l => { l with mark := answer } := by
  simp only [State.decideClaim, idle, runs, answered, Bool.false_eq_true, if_false, if_true, beq_iff_eq]

/-- The answer where an entry stands and the epochs agree (R122). -/
theorem claimAnswer_of_agreeing {source : Nat} {seen : Byte} (found : s.entry source = some e) (agree : seen = s.eval.epoch) :
    s.claimAnswer source seen = answerOf s.own source e.pair.state e.ownership := by
  simp only [State.claimAnswer, found]
  exact if_neg (by simp [agree])

theorem answerOf_eq_concur {own claimant : Nat} {state : CandState} {ownership : Ownership} (tested : state ≠ .clear)
    (yields : ownership = .holder → claimant < own) : answerOf own claimant state ownership = some .concur := by
  cases ownership with
  | holder => cases state <;> simp_all [answerOf, Nat.not_lt.mpr (yields rfl).le]
  | unheld => cases state <;> simp_all [answerOf]
  | claiming => cases state <;> simp_all [answerOf]
  | follower => cases state <;> simp_all [answerOf]

theorem answerOf_eq_none {own claimant : Nat} {state : CandState} {ownership : Ownership}
    (h : state = .clear ∨ (ownership = .holder ∧ own < claimant)) : answerOf own claimant state ownership = none := by
  rcases h with rfl | ⟨rfl, lower⟩
  · rfl
  · cases state <;> simp [answerOf, lower]

/-- Settles O49: the answer of R122, and the addressee that it makes a FOLLOWER. -/
theorem claimAnswered : Obligations.ClaimAnswered := by
  refine ⟨fun chars source claimant seen s listens numbered idle carries why => ?_,
    fun chars source claimant seen e s listens runs numbered idle distinct carries found agree tested yields => ?_⟩
  · have answer := execReceiveClaim_of_own listens numbered carries rfl rfl rfl
    have silent : (s.modLine Line.heard).decideClaim source seen = s.modLine Line.heard := by
      cases running : s.running with
      | false =>
        have idle' : (s.modLine Line.heard).evaluating = false := idle
        have running' : (s.modLine Line.heard).running = false := running
        simp only [State.decideClaim, idle', running', Bool.false_eq_true, if_false]
      | true =>
        have none_ : (s.modLine Line.heard).claimAnswer source seen = none := by
          rcases why with h | absent | ⟨e, found, agree, h⟩
          · rw [running] at h
            cases h
          · have absent' : (s.modLine Line.heard).entry source = none := absent
            simp only [State.claimAnswer, absent']
          · exact (claimAnswer_of_agreeing (s := s.modLine Line.heard) found agree).trans (answerOf_eq_none h)
        rw [decideClaim_eq (s := s.modLine Line.heard) idle running none_, if_neg (by simp)]
        rfl
    rw [show ([claimant, seen] : List Byte).getD 1 0#8 = seen from rfl, silent] at answer
    exact ⟨_, answer, onlyLine_of_line _ s, rfl⟩
  · have answer := execReceiveClaim_of_own listens numbered carries rfl rfl rfl
    have concur : (s.modLine Line.heard).claimAnswer source seen = some .concur :=
      (claimAnswer_of_agreeing (s := s.modLine Line.heard) found agree).trans (answerOf_eq_concur tested yields)
    rw [show ([claimant, seen] : List Byte).getD 1 0#8 = seen from rfl,
      decideClaim_eq (s := s.modLine Line.heard) idle runs concur, if_pos rfl] at answer
    generalize marked : ((s.modLine Line.heard).modLine fun l => { l with mark := some .concur }) = u at answer
    have work := becomeFollower_work source u
    have udistinct : u.StationsDistinct := by rw [← marked]; exact distinct
    have ufound : u.entry source = some e := by rw [← marked]; exact found
    refine ⟨_, answer, ?_, ?_, ?_, fun claiming => ?_, ?_, fun f mem key active => ?_, fun f mem key active => ?_⟩
    · rw [← marked] at work ⊢
      exact onlyPair_of_work (f := fun l => { l.heard with mark := some .concur }) rfl rfl work
    · refine work.frame.course.mark.trans ?_
      rw [← marked]
      rfl
    · change (u.becomeFollower source).entry source = _
      rw [State.entry_update (becomeFollower_table udistinct source) Entry.follow_station, if_pos rfl, ufound, Option.map_some]
      by_cases claiming : e.ownership = .claiming <;> simp [Entry.follow, Entry.dropClaim, claiming]
    · exact becomeFollower_dropped ufound claiming
    · refine (becomeFollower_flags source u).trans ?_
      rw [← marked]
      rfl
    · exact becomeFollower_listed mem key active
    · exact becomeFollower_record (s := u) (by rw [← marked]; exact mem) key active

/-! ### An own claim settled (R124, R126 to R128) -/

theorem applyClaimOutcome_of_claiming (found : s.entry p = some e) (claiming : e.ownership = .claiming) (o : AttemptEnd) :
    s.applyClaimOutcome p o = match o with
      | .concur => s.settleHolder p true
      | .noMark => s.settleHolder p false
      | .stale => s.settleStale p
      | .repeatMark => s.claimRetry p false
      | .contentionLoss => s.claimRetry p true := by
  refine (if_pos (by simp [found, claiming])).trans ?_
  cases o <;> rfl

theorem claimEnded_of_idle (idle : s.evaluating = false) (p : Nat) (o : AttemptEnd) :
    s.claimEnded p o = s.applyClaimOutcome p o := if_neg (by simp [idle])

theorem settleHolder_report (p : Nat) (corroborated : Bool) (s : State) :
    (s.settleHolder p corroborated).report
      = { s.report with findings := changeActive (pairKey p) (Finding.settled corroborated) s.report.findings } := rfl

/-- The active record of a settled claim (R126, R127, R161). -/
theorem settleHolder_record (corroborated : Bool) {f : Finding} (mem : f ∈ s.report.findings) (key : f.key = pairKey p)
    (active : f.status.isActive = true) :
    f.settled corroborated ∈ (s.settleHolder p corroborated).report.findings :=
  mem_changeActive (Finding.settled_key corroborated) mem key active (Finding.done_of_active active)

theorem settleStale_report (p : Nat) (s : State) :
    (s.settleStale p).report
      = { s.report with findings := changeActive (pairKey p) Finding.withdrawn s.report.findings } := rfl

theorem settleHolder_entry (found : s.entry p = some e) (corroborated : Bool) :
    (s.settleHolder p corroborated).entry p = some e.settle := by
  rw [State.entry_update (settleHolder_table p corroborated s) fun _ => rfl, if_pos rfl, found]
  rfl

theorem settleStale_entry (found : s.entry p = some e) : (s.settleStale p).entry p = some (e.setBack s.eval.epoch) := by
  rw [State.entry_update (settleStale_table p s) fun _ => rfl, if_pos rfl, found]
  rfl

theorem leave_holds (o : Outgoing) (l : Line) : (l.leave o).holds o = false := by simp

/-- The end of a claim's attempt outside an evaluation, other than by REPEAT or a loss. -/
theorem execClaimEnded_eq {tr : Transmission} (runs : s.lineRuns = true) (idle : s.evaluating = false)
    (sends : s.line.transmission = some tr) (place : tr.inQueue = true) (claim : tr.telegram = .claim p)
    (found : s.entry p = some e) (claiming : e.ownership = .claiming) (stalePlace concurPlace : Bool) :
    exec (.attemptOutcome false stalePlace concurPlace) s = finish
      (if stalePlace then (s.modLine (.endAttempt .afterWindow)).settleStale p
        else (s.modLine (.endAttempt .afterWindow)).settleHolder p concurPlace) := by
  have answer := execAttemptOutcome_eq runs sends false stalePlace concurPlace
  have applied := fun o => applyClaimOutcome_of_claiming (s := s.modLine (.endAttempt .afterWindow)) found claiming o
  rw [if_pos place, State.queuedWindow, claim] at answer
  dsimp only at answer
  rw [if_neg (by simpa using readWindow_ne_repeat stalePlace concurPlace), claimEnded_of_idle (by exact idle), applied] at answer
  rw [answer]
  cases stalePlace <;> cases concurPlace <;> rfl

/-- Settles O50: the marks of the window settle the claim, or set its candidate back. -/
theorem claimSettled : Obligations.ClaimSettled := by
  refine ⟨fun s tr p e concurPlace runs idle sends place claim distinct found claiming => ?_,
    fun s tr p e concurPlace runs idle sends place claim distinct found claiming => ?_⟩
  · have answer := execClaimEnded_eq runs idle sends place claim found claiming false concurPlace
    rw [if_neg (by decide)] at answer
    refine ⟨_, answer, ?_, ?_, settleHolder_holds p concurPlace _, rfl, rfl, rfl, fun f mem key active =>
      settleHolder_record concurPlace mem key active⟩
    · exact onlyPair_of_work (f := .endAttempt .afterWindow) rfl rfl (settleHolder_work p _ concurPlace)
    · exact settleHolder_entry (s := s.modLine (.endAttempt .afterWindow)) found concurPlace
  · have answer := execClaimEnded_eq runs idle sends place claim found claiming true concurPlace
    rw [if_pos rfl] at answer
    refine ⟨_, answer, ?_, ?_, leave_holds _ _, rfl, rfl, rfl, ?_⟩
    · exact onlyPair_of_work (f := .endAttempt .afterWindow) rfl rfl (settleStale_work p _)
    · exact settleStale_entry (s := s.modLine (.endAttempt .afterWindow)) found
    · exact recordWithdrawn_of_changed rfl

/-! ### An own claim retried or spent (R125, R127, R143, R146) -/

/-- One attempt of a claim counted, W doubled after a loss (R125, R143). -/
def State.claimCounted (p : Nat) (lost : Bool) (s : State) : State :=
  (s.modEntry p Entry.count).modLine fun l =>
    if lost then (l.countAttempt (.claim p)).doubleWindow else l.countAttempt (.claim p)

theorem claimCounted_entry (found : s.entry p = some e) (lost : Bool) : (s.claimCounted p lost).entry p = some e.count := by
  rw [State.entry_update (s := s) (p := p) (f := Entry.count) rfl fun _ => rfl, if_pos rfl, found]
  rfl

/-- A claim attempt counted, and at the sixteenth the claim spent (R125, R127, R146). -/
theorem claimRetry_of_entry (found : s.entry p = some e) (lost : Bool) :
    s.claimRetry p lost = if 16 ≤ e.claimAttempts + 1 then
        ((s.claimCounted p lost).settleHolder p false).flagTelegramDiscarded
      else s.claimCounted p lost := by
  have unfolded : s.claimRetry p lost = if ((s.claimCounted p lost).entry p).any fun e => 16 ≤ e.claimAttempts then
        ((s.claimCounted p lost).settleHolder p false).flagTelegramDiscarded
      else s.claimCounted p lost := by
    cases lost <;> rfl
  rw [unfolded, claimCounted_entry found, Option.any_some]
  exact if_congr decide_eq_true_iff rfl rfl

theorem claimCounted_holds (p : Nat) (lost : Bool) (s : State) :
    (s.claimCounted p lost).line.holds (.claim p) = s.line.holds (.claim p) := by
  have counted : (s.line.countAttempt (.claim p)).holds (.claim p) = s.line.holds (.claim p) := by
    rw [Bool.eq_iff_iff, Line.holds_iff, Line.holds_iff, Line.telegrams, Line.countAttempt_telegrams]
    rfl
  cases lost with
  | true => exact (Line.holds_doubleWindow _ _).trans counted
  | false => exact counted

/-- The three ends of an attempt that lose it: the line they leave, and whether W doubles. -/
theorem execClaimLost_eq {tr : Transmission} (runs : s.lineRuns = true) (idle : s.evaluating = false)
    (sends : s.line.transmission = some tr) (place : tr.inQueue = true) (claim : tr.telegram = .claim p)
    (found : s.entry p = some e) (claiming : e.ownership = .claiming) {c : Instr}
    (which : c = .contentionLoss ∨ c = .lineFaultOnTransmit
      ∨ ∃ stalePlace concurPlace, c = .attemptOutcome true stalePlace concurPlace) :
    ∃ (f : Line → Line) (lost : Bool), exec c s = finish ((s.modLine f).claimRetry p lost)
      ∧ (f s.line).queue = s.line.queue ∧ (f s.line).restartPending = s.line.restartPending
      ∧ (f s.line).window = s.line.window ∧ (c = .contentionLoss ∨ c = .lineFaultOnTransmit → lost = true)
      ∧ ((∃ a b, c = .attemptOutcome true a b) → lost = false ∧ (f s.line).pauses = s.line.pauses ++ [.claim p]) := by
  have applied : ∀ (f : Line → Line) (o : AttemptEnd), (s.modLine f).claimEnded p o = (s.modLine f).applyClaimOutcome p o :=
    fun f o => claimEnded_of_idle (s := s.modLine f) idle p o
  rcases which with rfl | rfl | ⟨stalePlace, concurPlace, rfl⟩
  · have answer := execContentionLoss_eq runs sends
    rw [State.attemptLost, place, claim] at answer
    dsimp only at answer
    rw [applied, applyClaimOutcome_of_claiming (by exact found) claiming] at answer
    exact ⟨_, true, answer, rfl, rfl, rfl, fun _ => rfl, nofun⟩
  · have answer := execLineFaultOnTransmit_eq runs sends
    rw [State.attemptLost, place, claim] at answer
    dsimp only at answer
    rw [applied, applyClaimOutcome_of_claiming (by exact found) claiming] at answer
    exact ⟨_, true, answer, rfl, rfl, rfl, fun _ => rfl, nofun⟩
  · have answer := execAttemptOutcome_eq runs sends true stalePlace concurPlace
    rw [if_pos place, State.queuedWindow, claim] at answer
    have retried : ((s.modLine (.endAttempt .afterWindow)).modLine (.startPause (.claim p))).claimEnded p .repeatMark
        = (s.modLine fun l => (l.endAttempt .afterWindow).startPause (.claim p)).claimRetry p false :=
      (applied (fun l => (l.endAttempt .afterWindow).startPause (.claim p)) _).trans
        (applyClaimOutcome_of_claiming (by exact found) claiming _)
    exact ⟨_, false, answer.trans (congrArg finish retried), rfl, rfl, rfl, by simp, fun _ => ⟨rfl, rfl⟩⟩

/-- Settles O51: the attempt counted on the entry, and the claim spent at the sixteenth. -/
theorem claimRetriedOrSpent : Obligations.ClaimRetriedOrSpent := by
  intro s tr p e runs idle sends place claim distinct holds found claiming c which
  obtain ⟨f, lost, answer, queue, pending, window, doubles, pauses⟩ :=
    execClaimLost_eq runs idle sends place claim found claiming which
  have found' : (s.modLine f).entry p = some e := found
  refine ⟨_, answer, onlyPair_of_work queue pending (claimRetry_work p _ lost), fun few => ?_, fun many => ?_⟩
  · rw [claimRetry_of_entry found', if_neg (by omega)]
    have place := (claimCounted_holds p lost (s.modLine f)).trans ((Line.holds_congr queue).trans holds)
    refine ⟨rfl, claimCounted_entry found' lost, place, rfl, fun loss => ?_,
      fun repeated => ?_⟩
    · rw [doubles loss]
      exact congrArg (fun w => min 64 (2 * w)) window
    · obtain ⟨rfl, paused⟩ := pauses repeated
      exact ⟨window, paused⟩
  · rw [claimRetry_of_entry found', if_pos many]
    refine ⟨settleHolder_entry (claimCounted_entry found' lost) false, settleHolder_holds p false _, rfl,
      rfl, fun r mem key active => ?_⟩
    have settled := settleHolder_record (s := (s.modLine f).claimCounted p lost) false mem key active
    rwa [Finding.settled, Bool.or_false] at settled

end

end Sys2Proof.Machine
end

/-! A period expiry (O16): the entries age one by one, in table order (R84, R93 to R95). -/

section
namespace Sys2Proof.Machine

/-! ### One entry aged -/

/-- What the ageing makes of an entry (R93, R94): none where it leaves the table. -/
def Entry.aged (e : Entry) : Option Entry :=
  if 240 ≤ e.grow.age then none else if e.grow.age = 4 then some (e.grow.unfollow true) else some e.grow

theorem Entry.aged_station {e f : Entry} (h : e.aged = some f) : f.station = e.station := by
  unfold Entry.aged at h
  split_ifs at h
  · rw [← Option.some.inj h, (congrArg Entry.station (Entry.unfollow_sameContent true e.grow) :)]
    rfl
  · rw [← Option.some.inj h]
    rfl

theorem aged_stations (l : List Entry) : ((l.filterMap Entry.aged).map Entry.station).Sublist (l.map Entry.station) := by
  induction l with
  | nil => exact .slnil
  | cons e l ih =>
    cases aged : e.aged with
    | none =>
      rw [List.filterMap_cons_none aged]
      exact ih.cons _
    | some f =>
      rw [List.filterMap_cons_some aged, List.map_cons, List.map_cons, Entry.aged_station aged]
      exact ih.cons_cons _

theorem grow_age_ge {e : Entry} : 240 ≤ e.grow.age ↔ 239 ≤ e.age := by
  simp only [Entry.grow]
  omega

theorem grow_age_eq {e : Entry} : e.grow.age = 4 ↔ e.age = 3 := by
  simp only [Entry.grow]
  omega

section
variable {s : State} {p : Nat} {e : Entry}

theorem unfollow_queue_of_ne (p : Nat) (s : State) {q : Queued} (other : q.telegram ≠ .claim p) :
    q ∈ (s.unfollow p).line.queue ↔ q ∈ s.line.queue := by
  have tested : ∀ u : State, q ∈ (u.testClaim p).line.queue ↔ q ∈ u.line.queue := fun u => by
    unfold State.testClaim
    split
    · rfl
    · split
      · exact Line.mem_submit_of_ne other
      · rfl
  unfold State.unfollow
  split
  · exact tested _
  · rfl

theorem settleAge_of_entry (found : s.entry p = some e) :
    s.settleAge p = if 240 ≤ e.age then s.removeEntry p else if e.age = 4 then s.unfollow p else s := by
  simp only [State.settleAge, found, beq_iff_eq]

theorem settleAge_duplicateTimer (p : Nat) (s : State) : (s.settleAge p).table.duplicateTimer = s.table.duplicateTimer := by
  unfold State.settleAge
  split
  · rfl
  · split
    · exact removeEntry_duplicateTimer p s
    · split
      · exact (unfollow_work p s).frame.duplicateTimer
      · rfl

end

/-! ### The entries aged in table order -/

/-- A state on the way: of the entries of `s`, those of `done` have been aged, those of `rest` only counted (R93). -/
structure Ageing (s : State) (done rest : List Entry) (v : State) : Prop where
  split : done ++ rest = s.table.entries
  core : KeepsCore s v
  entries : v.table.entries = done.filterMap Entry.aged ++ rest.map Entry.grow
  saturated : v.table.saturated = true ↔ s.table.saturated = true ∧ ∀ e ∈ done, e.age < 239
  others : ∀ f : Finding, (∀ e ∈ done, f.key = pairKey e.station → e.age ≠ 3 ∧ e.age < 239) →
    (f ∈ v.report.findings ↔ f ∈ s.report.findings)
  withdrawn : ∀ e ∈ done, e.pair.state.confirmedOrRecovering = true → 239 ≤ e.age →
    RecordWithdrawn (pairKey e.station) s v
  claimed : ∀ e ∈ done, e.pair.state.confirmedOrRecovering = true → e.age = 3 → e.ownership = .follower →
    ∀ f ∈ s.report.findings, f.key = pairKey e.station → f.status.isActive = true → f.claimed ∈ v.report.findings
  queue : ∀ q : Queued, (∀ p, q.telegram ≠ .claim p) → (q ∈ v.line.queue ↔ q ∈ s.line.queue)
  course : s.line.Course v.line

section
variable {s v w : State} {done rest : List Entry} {e : Entry}

theorem Ageing.stationsDistinct (h : Ageing s done rest v) (distinct : s.StationsDistinct) : v.StationsDistinct := by
  have stations : (v.table.entries.map Entry.station).Sublist (s.table.entries.map Entry.station) := by
    rw [h.entries, ← h.split, List.map_append, List.map_append, List.map_map]
    exact (aged_stations done).append (.refl _)
  exact distinct.sublist stations

theorem Ageing.apart (h : Ageing s done (e :: rest) v) (distinct : s.StationsDistinct) {x : Entry} (mem : x ∈ done) :
    pairKey x.station ≠ pairKey e.station := fun same => by
  rw [State.StationsDistinct, ← h.split, List.map_append, List.nodup_append] at distinct
  exact distinct.2.2 _ (List.mem_map_of_mem mem) _ (List.mem_map_of_mem (List.mem_cons_self ..)) (congrArg Key.subject same)

/-- One entry more, where what happened for it concerned its own record alone. -/
theorem Ageing.next (h : Ageing s done (e :: rest) v) (distinct : s.StationsDistinct) (core : KeepsCore v w)
    (entries : w.table.entries = done.filterMap Entry.aged ++ e.aged.toList ++ rest.map Entry.grow)
    (saturated : w.table.saturated = (v.table.saturated && decide (e.age < 239)))
    (records : ∀ f : Finding, f.key ≠ pairKey e.station ∨ (e.age ≠ 3 ∧ e.age < 239) →
      (f ∈ w.report.findings ↔ f ∈ v.report.findings))
    (withdrawn : e.pair.state.confirmedOrRecovering = true → 239 ≤ e.age → RecordWithdrawn (pairKey e.station) v w)
    (claimed : e.pair.state.confirmedOrRecovering = true → e.age = 3 → e.ownership = .follower →
      ∀ f ∈ v.report.findings, f.key = pairKey e.station → f.status.isActive = true → f.claimed ∈ w.report.findings)
    (queue : ∀ q : Queued, (∀ p, q.telegram ≠ .claim p) → (q ∈ w.line.queue ↔ q ∈ v.line.queue))
    (course : v.line.Course w.line) : Ageing s (done ++ [e]) rest w := by
  have own : ∀ f : Finding, f.key = pairKey e.station → (f ∈ v.report.findings ↔ f ∈ s.report.findings) :=
    fun f key => h.others f fun x mem same => absurd (same.symm.trans key) (h.apart distinct mem)
  refine ⟨by rw [← h.split, List.append_assoc, List.singleton_append], h.core.trans core, ?_, ?_, fun f quiet => ?_,
    fun x mem confirmed old => ?_, fun x mem confirmed lost follower f fmem key active => ?_,
    fun q other => (queue q other).trans (h.queue q other), h.course.trans course⟩
  · rw [entries, List.filterMap_append]
    cases aged : e.aged <;> simp [aged]
  · rw [saturated, Bool.and_eq_true, h.saturated, decide_eq_true_eq, and_assoc, List.forall_mem_append,
      List.forall_mem_singleton]
  · obtain ⟨before, here⟩ := List.forall_mem_append.mp quiet
    refine (records f ?_).trans (h.others f before)
    exact (em (f.key = pairKey e.station)).symm.imp id fun key => here e (List.mem_singleton_self e) key
  · rcases List.mem_append.mp mem with mem | mem
    · exact (h.withdrawn x mem confirmed old).congr rfl fun f key =>
        records f (.inl (key ▸ h.apart distinct mem))
    · rw [List.mem_singleton.mp mem] at confirmed old ⊢
      obtain ⟨idle, kept⟩ := withdrawn confirmed old
      exact ⟨idle, fun f fmem key => kept f ((own f key).mpr fmem) key⟩
  · rcases List.mem_append.mp mem with mem | mem
    · exact (records _ (.inl (key ▸ h.apart distinct mem))).mpr (h.claimed x mem confirmed lost follower f fmem key active)
    · rw [List.mem_singleton.mp mem] at confirmed lost follower key
      exact claimed confirmed lost follower f ((own f key).mpr fmem) key active

/-- The removal of the one entry of a station, from its place. -/
theorem filter_station_split {before after : List Entry} (distinct : ((before ++ e :: after).map Entry.station).Nodup) :
    ((before ++ e :: after).filter fun x => x.station != e.station) = before ++ after := by
  rw [List.map_append, List.map_cons, List.nodup_append] at distinct
  obtain ⟨-, own, apart⟩ := distinct
  have kept : ∀ l : List Entry, (∀ x ∈ l, x.station ≠ e.station) → (l.filter fun x => x.station != e.station) = l :=
    fun l h => List.filter_eq_self.mpr fun x mem => by simpa using h x mem
  rw [List.filter_append, List.filter_cons_of_neg (by simp),
    kept before fun x mem => apart _ (List.mem_map_of_mem mem) _ (List.mem_cons_self ..),
    kept after fun x mem same => (List.nodup_cons.mp own).1 (same ▸ List.mem_map_of_mem mem)]

/-- The entry whose turn it is. -/
theorem Ageing.settled (h : Ageing s done (e :: rest) v) (distinct : s.StationsDistinct) (runs : s.running = true) :
    Ageing s (done ++ [e]) rest (v.settleAge e.station) := by
  have vdistinct := h.stationsDistinct distinct
  have found : v.entry e.station = some e.grow :=
    vdistinct.entry_eq (e := e.grow) (by rw [h.entries]; simp)
  have entries : v.table.entries = done.filterMap Entry.aged ++ e.grow :: rest.map Entry.grow := by rw [h.entries]; rfl
  rw [settleAge_of_entry found]
  by_cases old : 239 ≤ e.age
  · rw [if_pos (grow_age_ge.mpr old)]
    refine h.next distinct (removeEntry_keepsCore ..) ?_ ?_ (fun f other => ?_) (fun confirmed _ => ?_)
      (fun _ lost => by omega) (fun q other => ?_) (removeEntry_course ..)
    · rw [State.StationsDistinct, entries] at vdistinct
      rw [removeEntry_entries, entries, show e.station = e.grow.station from rfl, filter_station_split vdistinct,
        Entry.aged, if_pos (grow_age_ge.mpr old)]
      simp
    · rw [removeEntry_table found]
      simp [Nat.not_lt.mpr old]
    · exact removeEntry_findings_of_ne _ v (other.resolve_right (by omega))
    · exact recordWithdrawn_of_changed (by rw [removeEntry_findings found, if_pos (by exact confirmed)])
    · rw [removeEntry_line, withdrawIfClaiming_queue_of_ne _ v (other _)]
  · rw [if_neg (fun h => old (grow_age_ge.mp h))]
    by_cases lost : e.age = 3
    · rw [if_pos (grow_age_eq.mpr lost)]
      have work := unfollow_work e.station v
      have vruns : v.running = true := h.core.running.trans runs
      refine h.next distinct work.only.toKeepsCore ?_ ?_ (fun f other => work.only.records f (other.resolve_right (by omega)))
        (fun _ ancient => absurd ancient old) (fun confirmed _ follower f mem key active => ?_)
        (fun q other => unfollow_queue_of_ne _ v (other _)) work.frame.course
      · rw [State.StationsDistinct, entries] at vdistinct
        rw [unfollow_table (h.stationsDistinct distinct), vruns]
        change v.table.entries.map _ = _
        rw [entries, show e.station = e.grow.station from rfl, NeighbourTable.update_split vdistinct, Entry.aged,
          if_neg (fun h => old (grow_age_ge.mp h)), if_pos (grow_age_eq.mpr lost)]
        simp
      · rw [work.frame.saturated, decide_eq_true (by omega), Bool.and_true]
      · have record := unfollow_record found vruns mem key active
        rwa [if_pos ⟨follower, confirmed⟩] at record
    · rw [if_neg (fun h => lost (grow_age_eq.mp h))]
      refine h.next distinct (.refl v) ?_ ?_ (fun _ _ => .rfl) (fun _ h => absurd h old) (fun _ h => absurd h lost)
        (fun _ _ => .rfl) (.refl _)
      · rw [entries, Entry.aged, if_neg (fun h => old (grow_age_ge.mp h)), if_neg (fun h => lost (grow_age_eq.mp h))]
        simp
      · simp [Nat.lt_of_not_le old]

end

/-- All entries aged. -/
theorem ageEntries_ageing {s : State} (distinct : s.StationsDistinct) (runs : s.running = true) :
    Ageing s s.table.entries [] s.ageEntries := by
  have counted : Ageing s [] s.table.entries (s.modTable fun t => { t with entries := t.entries.map Entry.grow }) :=
    ⟨rfl, .modTable _ s, rfl, by simp, fun _ _ => .rfl, by simp, by simp, fun _ _ => .rfl, .refl _⟩
  have stations : s.ageEntries = s.table.entries.foldl (fun u e => u.settleAge e.station)
      (s.modTable fun t => { t with entries := t.entries.map Entry.grow }) := by
    rw [State.ageEntries, List.foldl_map]
  rw [stations]
  exact foldl_split (P := Ageing s) (fun _ _ _ _ h => h.settled distinct runs) _ counted

theorem ageEntries_duplicateTimer (s : State) : s.ageEntries.table.duplicateTimer = s.table.duplicateTimer :=
  foldl_keeps (P := fun u => u.table.duplicateTimer = s.table.duplicateTimer)
    (fun u p h => (settleAge_duplicateTimer p u).trans h) _ rfl

/-- An entry that stays, field by field: one that turns LOST is no FOLLOWER any more, and claims where it is confirmed
(R94, R116). -/
theorem aged_eq_of_young (e : Entry) :
    (if e.grow.age = 4 then some (e.grow.unfollow true) else some e.grow) = some { e with
      age := e.grow.age
      ownership := if (e.grow.age = 4 ∧ e.ownership = .follower) ∧ e.pair.state.confirmedOrRecovering = true then .claiming
        else if e.grow.age = 4 ∧ e.ownership = .follower then .unheld else e.ownership
      claimAttempts := if (e.grow.age = 4 ∧ e.ownership = .follower) ∧ e.pair.state.confirmedOrRecovering = true then 0
        else e.claimAttempts } := by
  by_cases lets : e.grow.age = 4 ∧ e.ownership = .follower
  · rw [if_pos lets.1]
    cases confirmed : e.pair.state.confirmedOrRecovering with
    | true =>
      rw [if_pos ⟨lets, rfl⟩, if_pos ⟨lets, rfl⟩]
      simp [Entry.unfollow, Entry.unhold, Entry.claim, Entry.grow, lets.2, confirmed]
    | false =>
      rw [if_neg (by simp), if_pos lets, if_neg (by simp)]
      simp [Entry.unfollow, Entry.unhold, Entry.claim, Entry.grow, lets.2, confirmed]
  · have still : (if e.grow.age = 4 then some (e.grow.unfollow true) else some e.grow) = some e.grow := by
      by_cases turned : e.grow.age = 4
      · have other : e.grow.ownership ≠ .follower := fun follower => lets ⟨turned, follower⟩
        rw [if_pos turned, Entry.unfollow, if_neg (by simpa using other)]
      · rw [if_neg turned]
    rw [still, if_neg fun h => lets h.1, if_neg lets, if_neg fun h => lets h.1]
    rfl

/-- What an expiry makes of the table, the records and the queue is the ageing's (R93). -/
theorem aged_eq (s : State) : s.aged.table = { s.ageEntries.table with duplicateTimer := s.ageEntries.table.duplicateTimer - 1 }
    ∧ s.aged.report = s.ageEntries.report ∧ s.aged.line.queue = s.ageEntries.line.queue := by
  rw [State.aged, access_eq]
  exact ⟨rfl, rfl, rfl⟩

theorem aged_course (s : State) : s.aged.line.tracking = s.ageEntries.line.tracking
    ∧ s.aged.line.idle = s.ageEntries.line.idle ∧ s.aged.line.received = s.ageEntries.line.received
    ∧ s.aged.line.restartPending = s.ageEntries.line.restartPending := by
  rw [State.aged, access_eq]
  exact ⟨rfl, rfl, rfl, rfl⟩

/-- Settles O16: the entries aged in table order, beside the blocks that an expiry writes. -/
theorem periodExpiry : Obligations.PeriodExpiry := by
  refine ⟨fun s T runs idle timers due divides => ?_, fun s T runs idle timers distinct => ?_⟩
  · have core := aged_keepsCore s
    have timer : s.aged.table.duplicateTimer = s.table.duplicateTimer - 1 := by
      rw [(aged_eq s).1, ageEntries_duplicateTimer]
    exact ⟨_, execPeriodExpiry_of_due runs idle timers due divides, rfl, rfl, rfl, timer, rfl, core.locals, core.loader,
      core.pending⟩
  · have ageing := ageEntries_ageing distinct runs
    obtain ⟨table, report, queue⟩ := aged_eq s
    obtain ⟨tracking, line, received, pending⟩ := aged_course s
    have findings : s.aged.report.findings = s.ageEntries.report.findings := congrArg Report.findings report
    have saturated : s.aged.table.saturated = s.ageEntries.table.saturated := by rw [table]
    refine ⟨_, execPeriodExpiry_eq runs idle timers rfl, ?_, ?_, fun f quiet => ?_, fun e mem confirmed =>
      ⟨fun old => ?_, fun lost follower f fmem key active => ?_⟩, fun q other => ?_,
      tracking.trans ageing.course.tracking, line.trans ageing.course.idle, received.trans ageing.course.received,
      pending.trans ageing.course.restartPending⟩
    · change s.aged.table.entries = _
      rw [table, ageing.entries]
      simp only [List.map_nil, List.append_nil]
      refine List.filterMap_congr fun e _ => ?_
      change e.aged = if 240 ≤ e.grow.age then _ else _
      by_cases old : 240 ≤ e.grow.age
      · rw [Entry.aged, if_pos old, if_pos old]
      · rw [Entry.aged, if_neg old, if_neg old]
        exact aged_eq_of_young e
    · exact (Bool.eq_iff_iff.mp saturated).trans ageing.saturated
    · exact Iff.trans (by rw [← findings]; rfl) (ageing.others f quiet)
    · exact (ageing.withdrawn e mem confirmed old).congr rfl fun f _ => by rw [← findings]; rfl
    · have claimed := ageing.claimed e mem confirmed lost follower f fmem key active
      rwa [← findings] at claimed
    · exact Iff.trans (by rw [← queue]; rfl) (ageing.queue q other)

end Sys2Proof.Machine
end

/-! What a hand-over does to the record list: it concerns the record of its own key, and takes from the others at most one
that is not active, where the list is full (R158 to R160, R166). -/

section
namespace Sys2Proof.Machine

/-! ### Changes that concern one key -/

/-- A change of the record list that concerns one key, and makes a record where `grows` (R159). -/
structure RecordStep (k : Key) (grows : Bool) (l m : List Finding) : Prop where
  kept : ∀ f ∈ l, f.key ≠ k → (f.status.isActive = true ∨ (grows = true → l.length ≤ 23)) → f ∈ m
  old : ∀ f ∈ m, f.key ≠ k → f ∈ l
  length : m.length ≤ l.length + grows.toNat

/-- What a run of such changes, of which `made` make a record, leaves of the record of a key that none of them concerns. -/
structure RecordRun (k : Key) (made : Nat) (l m : List Finding) : Prop where
  active : ∀ f ∈ l, f.key = k → f.status.isActive = true → f ∈ m
  room : l.length + made ≤ 24 → ∀ f ∈ l, f.key = k → f ∈ m
  old : ∀ f ∈ m, f.key = k → f ∈ l
  length : m.length ≤ l.length + made

namespace RecordStep

variable {k : Key} {grows : Bool} {l m n : List Finding}

theorem refl (k : Key) (l : List Finding) : RecordStep k false l l := ⟨fun _ h _ _ => h, fun _ h _ => h, Nat.le_add_right ..⟩

theorem changeActive {g : Finding → Finding} (key : ∀ r, (g r).key = r.key) (k : Key) (l : List Finding) :
    RecordStep k false l (changeActive k g l) where
  kept _ mem other _ := (mem_changeActive_of_ne key other).mpr mem
  old _ mem other := (mem_changeActive_of_ne key other).mp mem
  length := (changeRecord_length ..).trans (Nat.le_add_right ..)

/-- A new record: room is made in a full list alone, and never of an active record (R159). -/
theorem append (k : Key) (holder : Holder) (announced : Bool) (score : Nat) (sequence : Byte) (l : List Finding) :
    RecordStep k true l (appendRecord k holder announced score sequence l) where
  kept f mem other why := by
    have stays : f ∈ l.filter fun r => r.key != k := List.mem_filter.mpr ⟨mem, by simpa using other⟩
    refine List.mem_append_left _ ?_
    rcases why with active | room
    · exact mem_makeRoom_of_active active stays
    · have shorter := List.length_filter_le (fun r : Finding => r.key != k) l
      rw [makeRoom, if_neg (by have := room rfl; omega)]
      exact stays
  old f mem other := (RecordLaw.mem_appendRecord mem).elim And.left fun h => absurd h.1 other
  length := by
    rw [appendRecord, List.length_append, List.length_singleton]
    exact Nat.add_le_add_right ((RecordLaw.makeRoom_sublist _).length_le.trans (List.length_filter_le ..)) 1

theorem andThen (h : RecordStep k false l m) (h' : RecordStep k grows m n) : RecordStep k grows l n where
  kept f mem other why := h'.kept f (h.kept f mem other (.inr nofun)) other
    (why.imp id fun room made => h.length.trans (room made))
  old f mem other := h.old f (h'.old f mem other) other
  length := h'.length.trans (Nat.add_le_add_right h.length _)

theorem andAlso (h : RecordStep k grows l m) (h' : RecordStep k false m n) : RecordStep k grows l n where
  kept f mem other why := h'.kept f (h.kept f mem other why) other (.inr nofun)
  old f mem other := h.old f (h'.old f mem other) other
  length := h'.length.trans h.length

/-- A change for one key, seen from another. -/
theorem run {k' : Key} (h : RecordStep k' grows l m) (other : k' ≠ k) : RecordRun k grows.toNat l m where
  active f mem key active := h.kept f mem (key ▸ other.symm) (.inl active)
  room few f mem key := h.kept f mem (key ▸ other.symm) (.inr fun made => by
    rw [made, Bool.toNat_true] at few
    omega)
  old f mem key := h.old f mem (key ▸ other.symm)
  length := h.length

end RecordStep

namespace RecordRun

variable {k : Key} {a b : Nat} {l m n : List Finding}

theorem refl (k : Key) (l : List Finding) : RecordRun k 0 l l :=
  ⟨fun _ h _ _ => h, fun _ _ h _ => h, fun _ h _ => h, Nat.le_refl _⟩

theorem trans (h : RecordRun k a l m) (h' : RecordRun k b m n) : RecordRun k (a + b) l n where
  active f mem key active := h'.active f (h.active f mem key active) key active
  room few f mem key := h'.room (by have := h.length; omega) f (h.room (by omega) f mem key) key
  old f mem key := h.old f (h'.old f mem key) key
  length := by
    have := h.length
    have := h'.length
    omega

/-- The record looked up by its key, where it was none or had room to stay. -/
theorem find (h : RecordRun k a l m) (keys : (l.map Finding.key).Nodup)
    (room : (l.find? fun r => r.key == k) = none ∨ l.length + a ≤ 24) :
    (m.find? fun r => r.key == k) = l.find? fun r => r.key == k := by
  cases found : l.find? fun r => r.key == k with
  | none =>
    rw [List.find?_eq_none] at found ⊢
    exact fun f mem key => found f (h.old f mem (by simpa using key)) key
  | some r =>
    have rmem := List.mem_of_find?_eq_some found
    have rkey : r.key = k := by simpa using List.find?_some found
    have stays := h.room (room.resolve_left (by simp [found])) r rmem rkey
    cases again : m.find? fun r => r.key == k with
    | none => exact absurd (List.find?_eq_none.mp again r stays) (by simp [rkey])
    | some q =>
      have qkey : q.key = k := by simpa using List.find?_some again
      have qmem := h.old q (List.mem_of_find?_eq_some again) qkey
      rw [List.inj_on_of_nodup_map keys qmem rmem (qkey.trans rkey.symm)]

end RecordRun

/-- A run over a list, each change for a key of its own. -/
theorem foldl_recordRun {α : Type} {hand : State → α → State} {info : α → Handed} {makes : α → Bool}
    (each : ∀ u a, RecordStep (info a).key (makes a) u.report.findings (hand u a).report.findings) {k : Key} (xs : List α)
    (others : ∀ a ∈ xs, (info a).key ≠ k) (s : State) :
    RecordRun k (xs.countP makes) s.report.findings (xs.foldl hand s).report.findings := by
  induction xs generalizing s with
  | nil => exact .refl ..
  | cons a xs ih =>
    have first := (each s a).run (others a (List.mem_cons_self ..))
    have rest := ih (fun b mem => others b (List.mem_cons_of_mem _ mem)) (hand s a)
    have count : (a :: xs).countP makes = (makes a).toNat + xs.countP makes := by
      rw [List.countP_cons, Nat.add_comm]
      cases makes a <;> rfl
    rw [count]
    exact first.trans rest

/-- A list without an active or a finished record of the key is as before. -/
theorem changeActive_eq_self {k : Key} {g : Finding → Finding} {l : List Finding} (key : ∀ r, (g r).key = r.key)
    (idle : ∀ r ∈ l, r.key = k → r.status.isActive = false ∧ r.done = false) : changeActive k g l = l := by
  rw [changeActive, changeRecord_eq_filterMap fun r => by split; exacts [key r, rfl]]
  refine (List.filterMap_congr fun r mem => ?_).trans List.filterMap_some
  by_cases same : r.key = k
  · obtain ⟨inactive, stays⟩ := idle r mem same
    simp [same, inactive, stays]
  · rw [if_neg same]

/-! ### One hand-over -/

/-- The score of its candidate handed to a record (R69). -/
def Finding.scored (score : Nat) (r : Finding) : Finding := { r with peak := max r.peak score }

/-- The state of its candidate handed to a record (R160). -/
def Finding.turned (status : RecordStatus) (r : Finding) : Finding := { r with status := status }

theorem Finding.scored_key (score : Nat) (r : Finding) : (r.scored score).key = r.key := rfl
theorem Finding.turned_key (status : RecordStatus) (r : Finding) : (r.turned status).key = r.key := rfl
theorem Finding.retire_key (r : Finding) : r.retire.key = r.key := rfl

/-- The candidate handed over confirms (R66). -/
def Handed.confirms (x : Handed) : Bool := x.before == .suspect && x.after == .confirmed

/-- What a transition makes of the record list (R159, R160). -/
def Handed.turn (x : Handed) (holder : Holder) (announced : Bool) (sequence : Byte) (l : List Finding) : List Finding :=
  match x.before, x.after with
  | .suspect, .confirmed => appendRecord x.key holder announced x.score sequence l
  | .confirmed, .recovering => changeActive x.key (Finding.turned .recovering) l
  | .recovering, .confirmed => changeActive x.key (Finding.turned .confirmed) l
  | .recovering, .clear => changeActive x.key Finding.retire l
  | _, _ => l

/-- What a hand-over makes of the record list (R69, R159, R160). -/
def Handed.records (x : Handed) (holder : Holder) (announced : Bool) (sequence : Byte) (l : List Finding) : List Finding :=
  if x.after.confirmedOrRecovering then changeActive x.key (Finding.scored x.score) (x.turn holder announced sequence l)
  else x.turn holder announced sequence l

section
variable {x : Handed} {holder : Holder} {announced : Bool} {sequence : Byte} {l : List Finding}

theorem Handed.turn_step (x : Handed) (holder : Holder) (announced : Bool) (sequence : Byte) (l : List Finding) :
    RecordStep x.key x.confirms l (x.turn holder announced sequence l) := by
  unfold Handed.turn Handed.confirms
  split
  · rw [‹x.before = _›, ‹x.after = _›]
    exact .append ..
  · rw [‹x.before = _›]
    exact .changeActive (Finding.turned_key _) ..
  · rw [‹x.before = _›]
    exact .changeActive (Finding.turned_key _) ..
  · rw [‹x.before = _›]
    exact .changeActive Finding.retire_key ..
  · rename_i notConfirmed _ _ _
    have quiet : (x.before == .suspect && x.after == .confirmed) = false := by
      rw [← Bool.not_eq_true, Bool.and_eq_true, beq_iff_eq, beq_iff_eq]
      exact fun h => notConfirmed h.1 h.2
    rw [quiet]
    exact .refl ..

theorem Handed.records_step (x : Handed) (holder : Holder) (announced : Bool) (sequence : Byte) (l : List Finding) :
    RecordStep x.key x.confirms l (x.records holder announced sequence l) := by
  unfold Handed.records
  split
  · exact (x.turn_step ..).andAlso (.changeActive (Finding.scored_key _) ..)
  · exact x.turn_step ..

/-- How often a record has occurred, carried on from an old one (R159). -/
def occurrencesAfter (old : Option Finding) : Nat := old.elim 1 fun r => min 255 (r.occurrences + 1)

/-- The record of a candidate that has confirmed (R159). -/
def Handed.newRecord (x : Handed) (holder : Holder) (announced : Bool) (sequence : Byte) (old : Option Finding) : Finding :=
  { key := x.key, status := .confirmed, holder := holder, corroborated := false, acknowledged := false
    announced := announced, reportedActive := false, occurrences := occurrencesAfter old, peak := x.score
    sequence := sequence }

/-- The new record of a candidate that confirms (R159). -/
theorem Handed.newRecord_mem (before : x.before = .suspect) (after : x.after = .confirmed) :
    x.newRecord holder announced sequence (l.find? fun r => r.key == x.key) ∈ x.records holder announced sequence l := by
  have appended : x.newRecord holder announced sequence (l.find? fun r => r.key == x.key)
      ∈ x.turn holder announced sequence l := by
    rw [Handed.turn, before, after]
    refine List.mem_append_right _ (List.mem_singleton.mpr ?_)
    rw [Handed.newRecord]
    cases l.find? fun r => r.key == x.key <;> rfl
  have scored := mem_changeActive (k := x.key) (Finding.scored_key x.score) appended rfl rfl (Finding.done_of_active rfl)
  have same : (x.newRecord holder announced sequence (l.find? fun r => r.key == x.key)).scored x.score
      = x.newRecord holder announced sequence (l.find? fun r => r.key == x.key) :=
    congrArg (fun n => { x.newRecord holder announced sequence (l.find? fun r => r.key == x.key) with peak := n })
      (max_self x.score)
  rw [same] at scored
  rw [Handed.records, after]
  exact scored

/-- The status of a record as its candidate's state has it (R160). -/
def CandState.status (c : CandState) : RecordStatus := if c = .recovering then .recovering else .confirmed

theorem confirmedOrRecovering_cases {c : CandState} (h : c.confirmedOrRecovering = true) :
    c = .confirmed ∨ c = .recovering := by
  cases c with
  | confirmed => exact .inl rfl
  | recovering => exact .inr rfl
  | clear => cases h
  | suspect => cases h

theorem CandState.status_isActive (c : CandState) : c.status.isActive = true := by cases c <;> rfl

theorem CandState.status_of_reports {c : CandState} {r : RecordStatus} (h : r.reports c = true) : c.status = r := by
  cases r <;> cases c <;> first | rfl | cases h

/-- The active record of a candidate that stays CONFIRMED or RECOVERING, or comes from one to the other (R69, R160). -/
theorem Handed.turned_mem {f : Finding} (mem : f ∈ l) (key : f.key = x.key) (reports : f.status.reports x.before = true)
    (stays : x.after.confirmedOrRecovering = true) :
    (f.turned x.after.status).scored x.score ∈ x.records holder announced sequence l := by
  have active := RecordStatus.isActive_of_reports reports
  have turns : ∀ c : CandState, f.turned c.status ∈ changeActive x.key (Finding.turned c.status) l := fun c =>
    mem_changeActive (Finding.turned_key _) mem key active (Finding.done_of_active c.status_isActive)
  have kept : f.turned x.before.status ∈ l := by
    rw [CandState.status_of_reports reports]
    exact mem
  have turned : f.turned x.after.status ∈ x.turn holder announced sequence l := by
    rcases confirmedOrRecovering_cases (RecordStatus.confirmedOrRecovering_of_reports reports) with before | before <;>
      rcases confirmedOrRecovering_cases stays with after | after <;>
      rw [Handed.turn, before, after]
    · rwa [before] at kept
    · exact turns .recovering
    · exact turns .confirmed
    · rwa [before] at kept
  rw [Handed.records, if_pos stays]
  exact mem_changeActive (Finding.scored_key x.score) turned key x.after.status_isActive
    (Finding.done_of_active x.after.status_isActive)

/-- The active record of a candidate that clears is retired (R160). -/
theorem Handed.retired_mem {f : Finding} (mem : f ∈ l) (key : f.key = x.key) (active : f.status.isActive = true)
    (before : x.before = .recovering) (after : x.after = .clear) (stays : f.retire.done = false) :
    f.retire ∈ x.records holder announced sequence l := by
  rw [Handed.records, Handed.turn, before, after]
  exact mem_changeActive Finding.retire_key mem key active stays

end

/-! ### The hand-overs of a completion -/

section
variable {s : State} {p : Nat} {e : Entry} {x : Handed}

theorem handed_findings (x : Handed) (holder : Holder) (announced : Bool) (s : State) :
    (if x.after.confirmedOrRecovering then
        (s.reportTransition x.key x.before x.after x.score holder announced).handScore x.key x.score
      else s.reportTransition x.key x.before x.after x.score holder announced).report
      = { s.report with findings := x.records holder announced s.eval.sequence s.report.findings } := by
  have turned : (s.reportTransition x.key x.before x.after x.score holder announced).report
      = { s.report with findings := x.turn holder announced s.eval.sequence s.report.findings } := by
    unfold State.reportTransition Handed.turn
    cases x.before <;> cases x.after <;> rfl
  unfold Handed.records
  split
  · have scored : ∀ u : State, (u.handScore x.key x.score).report
        = { u.report with findings := changeActive x.key (Finding.scored x.score) u.report.findings } := fun _ => rfl
    rw [scored, turned]
  · exact turned

theorem handLocal_report (x : Handed) (s : State) :
    (s.handLocal x).report = { s.report with findings := x.records .self false s.eval.sequence s.report.findings } :=
  handed_findings x .self false s

theorem testClaim_report (found : s.entry p = some e) :
    (s.testClaim p).report = if s.running && e.pair.state.confirmedOrRecovering && e.ownership == .unheld then
        { s.report with findings := changeActive (pairKey p) Finding.claimed s.report.findings }
      else s.report := by
  rw [testClaim_of_entry found]
  split <;> rfl

theorem testClaim_step (p : Nat) (s : State) :
    RecordStep (pairKey p) false s.report.findings (s.testClaim p).report.findings := by
  cases found : s.entry p with
  | none =>
    rw [testClaim_of_absent found]
    exact .refl ..
  | some e =>
    rw [testClaim_report found]
    split
    · exact .changeActive Finding.claimed_key ..
    · exact .refl ..

theorem released_report (p : Nat) (s : State) : (s.released p).report = s.report := by
  unfold State.released
  split
  · exact withdrawIfClaiming_report p s
  · exact withdrawIfClaiming_report p s

/-- The coordinator's part of a hand-over: R116 tested, on a state with the same records. -/
theorem coordinate_eq_testClaim (p : Nat) (before after : CandState) (s : State) :
    ∃ u, s.coordinate p before after = u.testClaim p ∧ u.report = s.report ∧ PairWork p s u := by
  by_cases clears : before = .recovering ∧ after = .clear
  · obtain ⟨rfl, rfl⟩ := clears
    exact ⟨s.released p, coordinate_of_clears p s, released_report p s, released_work p s⟩
  · exact ⟨s, coordinate_of_stays clears p s, rfl, .refl s⟩

theorem coordinate_step (p : Nat) (before after : CandState) (s : State) :
    RecordStep (pairKey p) false s.report.findings (s.coordinate p before after).report.findings := by
  obtain ⟨u, same, report, -⟩ := coordinate_eq_testClaim p before after s
  rw [same, ← report]
  exact testClaim_step p u

theorem handPair_report (p : Nat) (x : Handed) (s : State) :
    ∃ holder, (s.handPair p x).report = { (s.coordinate p x.before x.after).report with
        findings := x.records holder true s.eval.sequence (s.coordinate p x.before x.after).report.findings }
      ∧ holder = if ((s.coordinate p x.before x.after).entry p).any (fun e => e.ownership == .follower) then .partner p
          else .self := by
  refine ⟨_, ?_, rfl⟩
  refine (handed_findings x _ true (s.coordinate p x.before x.after)).trans ?_
  rw [(coordinate_work p s x.before x.after).only.toKeepsCore.eval]

theorem handLocal_step (s : State) (x : Handed) :
    RecordStep x.key x.confirms s.report.findings (s.handLocal x).report.findings := by
  rw [handLocal_report]
  exact x.records_step ..

theorem handPair_step (s : State) (key : x.key = pairKey p) :
    RecordStep x.key x.confirms s.report.findings (s.handPair p x).report.findings := by
  obtain ⟨holder, report, -⟩ := handPair_report p x s
  rw [report]
  refine RecordStep.andThen ?_ (x.records_step ..)
  rw [key]
  exact coordinate_step ..

end

end Sys2Proof.Machine
end

/-! The record of one candidate through a whole completion: the run before its turn, its own hand-over, the run after. -/

section
namespace Sys2Proof.Machine

/-! ### The coordinator's part -/

theorem Entry.coordinate_follower (running : Bool) (before after : CandState) (e : Entry) :
    (e.coordinate running before after).ownership = .follower ↔ e.ownership = .follower := by
  have claims : ∀ f : Entry, (f.claim running).ownership = .follower ↔ f.ownership = .follower := fun f => by
    unfold Entry.claim
    split
    · rename_i may
      have unheld : f.ownership = .unheld := by
        simp only [Bool.and_eq_true, beq_iff_eq] at may
        exact may.2
      simp [unheld]
    · rfl
  unfold Entry.coordinate
  rw [claims]
  split
  · unfold Entry.release
    split
    · rename_i owned
      have other : e.ownership ≠ .follower := by
        rintro follower
        simp [follower] at owned
      simp [other]
    · rfl
  · rfl

section
variable {s : State} {p : Nat} {e : Entry}

theorem released_entry (distinct : s.StationsDistinct) (found : s.entry p = some e) :
    (s.released p).entry p = some e.release := by
  rw [State.entry_update (released_table distinct p) Entry.release_station, if_pos rfl, found]
  rfl

/-- The record list after the coordinator's part: holder SELF on the active record where a claim is queued (R161). -/
theorem coordinate_report (distinct : s.StationsDistinct) (found : s.entry p = some e) (before : CandState) :
    (s.coordinate p before e.pair.state).report =
      if s.running && e.pair.state.confirmedOrRecovering && e.ownership == .unheld then
        { s.report with findings := changeActive (pairKey p) Finding.claimed s.report.findings }
      else s.report := by
  by_cases clears : before = .recovering ∧ e.pair.state = .clear
  · obtain ⟨rfl, clear⟩ := clears
    have idle : e.release.pair.state.confirmedOrRecovering = false := by rw [Entry.release_pair, clear]; rfl
    rw [clear, coordinate_of_clears, testClaim_report (released_entry distinct found), idle, released_report]
    simp [CandState.confirmedOrRecovering]
  · rw [coordinate_of_stays clears, testClaim_report found]

/-- A pair handed over: its record list, once the coordinator has done its part. -/
theorem handPair_findings (distinct : s.StationsDistinct) (found : s.entry p = some e) {x : Handed}
    (stands : x.after = e.pair.state) :
    (s.handPair p x).report.findings = x.records (if e.ownership = .follower then .partner p else .self) true
      s.eval.sequence (if s.running && x.after.confirmedOrRecovering && e.ownership == .unheld then
        changeActive (pairKey p) Finding.claimed s.report.findings else s.report.findings) := by
  obtain ⟨holder, report, which⟩ := handPair_report p x s
  have entry : (s.coordinate p x.before x.after).entry p = some (e.coordinate s.running x.before x.after) := by
    rw [State.entry_update (coordinate_table distinct p x.before x.after) fun e => e.coordinate_station _ _ _, if_pos rfl,
      found]
    rfl
  have follows : holder = if e.ownership = .follower then .partner p else .self := by
    rw [which, entry, Option.any_some]
    exact if_congr (by rw [beq_iff_eq, Entry.coordinate_follower]) rfl rfl
  rw [report, follows, stands, coordinate_report distinct found]
  split <;> rfl

theorem handPair_flags (p : Nat) (x : Handed) (s : State) : (s.handPair p x).report.flags = s.report.flags := by
  obtain ⟨holder, report, -⟩ := handPair_report p x s
  obtain ⟨u, same, before, -⟩ := coordinate_eq_testClaim p x.before x.after s
  rw [report, same]
  exact (testClaim_flags p u).trans (congrArg Report.flags before)

end

/-! ### The turn of one candidate -/

/-- The hand-over of a candidate, where `claims` after its active record has taken the holder SELF (R161). -/
def Handed.turnRecords (x : Handed) (claims : Bool) (holder : Holder) (announced : Bool) (sequence : Byte)
    (l : List Finding) : List Finding :=
  x.records holder announced sequence (if claims then changeActive x.key Finding.claimed l else l)

/-- The record list goes from `l` to `m` by a candidate's own hand-over, between two runs that do not concern its key. -/
def OwnTurn (x : Handed) (claims : Bool) (holder : Holder) (announced : Bool) (sequence : Byte) (before after : Nat)
    (l m : List Finding) : Prop :=
  ∃ l', RecordRun x.key before l l' ∧ RecordRun x.key after (x.turnRecords claims holder announced sequence l') m

section
variable {x : Handed} {claims announced : Bool} {holder : Holder} {sequence : Byte} {before after : Nat}
  {l m : List Finding} (h : OwnTurn x claims holder announced sequence before after l m)

include h

/-- The new record of a candidate that confirms, carried on from an old record that had room to stay (R159). -/
theorem OwnTurn.confirmed (keys : (l.map Finding.key).Nodup)
    (idle : ∀ r ∈ l, r.key = x.key → r.status.isActive = false ∧ r.done = false) (suspect : x.before = .suspect)
    (confirms : x.after = .confirmed) (room : (l.find? fun r => r.key == x.key) = none ∨ l.length + before ≤ 24) :
    x.newRecord holder announced sequence (l.find? fun r => r.key == x.key) ∈ m := by
  obtain ⟨l', run, rest⟩ := h
  have quiet : (if claims then changeActive x.key Finding.claimed l' else l') = l' := by
    split
    · exact changeActive_eq_self Finding.claimed_key fun r mem key => idle r (run.old r mem key) key
    · rfl
  have made := Handed.newRecord_mem (l := l') (holder := holder) (announced := announced) (sequence := sequence) suspect
    confirms
  rw [run.find keys room] at made
  refine rest.active _ ?_ rfl rfl
  rw [Handed.turnRecords, quiet]
  exact made

/-- The active record of a candidate that is CONFIRMED or RECOVERING afterwards (R69, R160, R161). -/
theorem OwnTurn.turned {f : Finding} (mem : f ∈ l) (key : f.key = x.key) (reports : f.status.reports x.before = true)
    (stays : x.after.confirmedOrRecovering = true) :
    ((if claims then f.claimed else f).turned x.after.status).scored x.score ∈ m := by
  obtain ⟨l', run, rest⟩ := h
  have active := RecordStatus.isActive_of_reports reports
  have here := run.active f mem key active
  refine rest.active _ ?_ ?_ x.after.status_isActive
  · rw [Handed.turnRecords]
    cases claims with
    | true =>
      exact Handed.turned_mem (f := f.claimed)
        (mem_changeActive Finding.claimed_key here key active (Finding.done_of_active active)) key reports stays
    | false => exact Handed.turned_mem here key reports stays
  · cases claims <;> exact key

/-- The record of a candidate that clears, where it has room to stay (R160). -/
theorem OwnTurn.retired {f : Finding} (mem : f ∈ l) (key : f.key = x.key) (active : f.status.isActive = true)
    (recovering : x.before = .recovering) (clears : x.after = .clear) (unclaimed : claims = false)
    (undone : f.retire.done = false) (room : l.length + before + after ≤ 24) : f.retire ∈ m := by
  obtain ⟨l', run, rest⟩ := h
  subst unclaimed
  have here := run.active f mem key active
  have length := (x.records_step holder announced sequence l').length
  have quiet : x.confirms = false := by simp [Handed.confirms, recovering]
  rw [quiet] at length
  refine rest.room ?_ _ (Handed.retired_mem here key active recovering clears undone) key
  have := run.length
  simp only [Handed.turnRecords, Bool.false_eq_true, if_false, Bool.toNat_false] at length ⊢
  omega

end

theorem countP_split {α : Type} (q : α → Bool) (pre post : List α) (a : α) :
    (pre ++ a :: post).countP q = pre.countP q + (q a).toNat + post.countP q := by
  rw [List.countP_append, List.countP_cons]
  cases q a <;> simp [Nat.add_comm, Nat.add_left_comm]

/-! ### The candidates of a completion -/

section
variable {s : State} (own : Summary)

/-- A local candidate confirms from SUSPECT alone (R66). -/
theorem localConfirms_le (l : List LocalCandidate) (c : Configuration) (b : Bank) (changed : Bool) :
    l.countP (fun x => (x.handed c b changed).confirms) ≤ l.countP fun x => x.scored.state == .suspect :=
  List.countP_mono_left fun x _ confirms => by
    simp only [LocalCandidate.handed, Handed.confirms, Bool.and_eq_true] at confirms
    exact confirms.1

theorem Entry.suspect_of_testedFrom {e : Entry} {epoch : Byte} (h : e.testedFrom epoch = .suspect) :
    e.pair.state = .suspect := by
  unfold Entry.testedFrom Entry.checkReservation at h
  split at h
  · split at h
    · exact h
    · cases h
  · exact h

/-- A pair confirms from SUSPECT alone: one that its reservation check sets back does not (R66, R103). -/
theorem pairConfirms_le (l : List Entry) (fight : Nat) :
    l.countP (fun e => (e.handed fight own).confirms) ≤ l.countP fun e => e.pair.state == .suspect :=
  List.countP_mono_left fun e _ confirms => by
    simp only [Entry.handed, Handed.confirms, Bool.and_eq_true, beq_iff_eq] at confirms
    exact beq_iff_eq.mpr (Entry.suspect_of_testedFrom confirms.1)

variable (keyed : s.locals.map LocalCandidate.key = localKeys)

include keyed

theorem local_key_ne {x : LocalCandidate} (mem : x ∈ s.locals) {k : Key} (pair : k.kind = .crossFight) : x.key ≠ k :=
  fun same => localKeys_kind (keyed ▸ List.mem_map_of_mem mem : x.key ∈ localKeys) (same ▸ pair)

/-- A local candidate's turn in a completion. -/
theorem local_ownTurn {x : LocalCandidate} (mem : x ∈ s.locals) :
    ∃ before after, OwnTurn (x.handed s.cfg s.acq.frozen s.eval.epochChanged) false .self false s.eval.sequence before after
        s.report.findings (s.updateCandidates own).report.findings
      ∧ before + (x.handed s.cfg s.acq.frozen s.eval.epochChanged).confirms.toNat
          ≤ s.locals.countP (fun x => x.scored.state == .suspect)
      ∧ before + (x.handed s.cfg s.acq.frozen s.eval.epochChanged).confirms.toNat + after ≤ s.mayConfirm := by
  obtain ⟨pre, post, split⟩ := List.append_of_mem mem
  have keys : (s.locals.map LocalCandidate.key).Nodup := keyed ▸ localKeys_nodup
  rw [split, List.map_append, List.map_cons, List.nodup_append] at keys
  obtain ⟨-, later, apart⟩ := keys
  have locals := localConfirms_le s.locals s.cfg s.acq.frozen s.eval.epochChanged
  have pairs := pairConfirms_le own s.table.entries s.cfg.params.fightEffort
  rw [split, countP_split] at locals
  have fold := updateCandidates_eq own s
  rw [split, List.foldl_append, List.foldl_cons] at fold
  have others : ∀ (l : List LocalCandidate) (u : State), (∀ y ∈ l, y.key ≠ x.key) →
      RecordRun x.key (l.countP fun y => (y.handed s.cfg s.acq.frozen s.eval.epochChanged).confirms) u.report.findings
        (l.foldl (fun u y => u.handLocal (y.handed s.cfg s.acq.frozen s.eval.epochChanged)) u).report.findings :=
    fun l u h => foldl_recordRun (info := LocalCandidate.handed s.cfg s.acq.frozen s.eval.epochChanged)
      (fun u _ => handLocal_step u _) l h u
  have first := others pre (s.rescored own) fun y ymem =>
    apart _ (List.mem_map_of_mem ymem) _ (List.mem_cons_self ..)
  have frame := PairFrame.foldl (fun u y => u.handLocal (LocalCandidate.handed s.cfg s.acq.frozen s.eval.epochChanged y))
    (fun u _ => handLocal_frame u _) pre (s.rescored own)
  generalize pre.foldl _ (s.rescored own) = u at first frame fold
  have second := others post (u.handLocal (x.handed s.cfg s.acq.frozen s.eval.epochChanged)) fun y ymem same =>
    (List.nodup_cons.mp later).1 (same ▸ List.mem_map_of_mem ymem)
  generalize post.foldl _ _ = w at second fold
  have third := foldl_recordRun (k := x.key) (hand := fun u e => u.handPair e.station (e.handed s.cfg.params.fightEffort own))
    (info := Entry.handed s.cfg.params.fightEffort own) (fun u _ => handPair_step u rfl) s.table.entries
    (fun e _ same => local_key_ne keyed mem (k := pairKey e.station) rfl same.symm) w
  have turn : (u.handLocal (x.handed s.cfg s.acq.frozen s.eval.epochChanged)).report.findings
      = (x.handed s.cfg s.acq.frozen s.eval.epochChanged).turnRecords false .self false s.eval.sequence u.report.findings := by
    rw [handLocal_report, frame.eval]
    rfl
  rw [turn] at second
  rw [fold]
  refine ⟨_, _, ⟨_, first, second.trans third⟩, ?_, ?_⟩
  · rw [split]
    omega
  · rw [State.mayConfirm, split]
    omega

/-- A pair candidate's turn in a completion. -/
theorem pair_ownTurn (distinct : s.StationsDistinct) {e : Entry} (mem : e ∈ s.table.entries) :
    ∃ before after, OwnTurn (e.handed s.cfg.params.fightEffort own)
        (s.running && (e.evaluate s.cfg.params.fightEffort own).pair.state.confirmedOrRecovering && e.ownership == .unheld)
        (if e.ownership = .follower then .partner e.station else .self) true s.eval.sequence before after
        s.report.findings (s.updateCandidates own).report.findings
      ∧ before + (e.handed s.cfg.params.fightEffort own).confirms.toNat + after ≤ s.mayConfirm := by
  obtain ⟨pre, post, split⟩ := List.append_of_mem mem
  have stations : (s.table.entries.map Entry.station).Nodup := distinct
  rw [split, List.map_append, List.map_cons, List.nodup_append] at stations
  obtain ⟨-, later, apart⟩ := stations
  have locals := localConfirms_le s.locals s.cfg s.acq.frozen s.eval.epochChanged
  have pairs := pairConfirms_le own s.table.entries s.cfg.params.fightEffort
  rw [split, countP_split] at pairs
  have fold := updateCandidates_eq own s
  rw [split, List.foldl_append, List.foldl_cons] at fold
  have frame := localsHanded_frame s.cfg s.acq.frozen s.eval.epochChanged s.locals (s.rescored own)
  have table := localsHanded_table s.cfg s.acq.frozen s.eval.epochChanged s.locals (s.rescored own)
  have first := foldl_recordRun (k := pairKey e.station)
    (hand := fun u y => u.handLocal (y.handed s.cfg s.acq.frozen s.eval.epochChanged))
    (info := LocalCandidate.handed s.cfg s.acq.frozen s.eval.epochChanged) (fun u _ => handLocal_step u _) s.locals
    (fun y ymem => local_key_ne keyed ymem rfl) (s.rescored own)
  generalize s.locals.foldl _ (s.rescored own) = u at first frame table fold
  have others : ∀ (l : List Entry) (u : State), (∀ f ∈ l, f.station ≠ e.station) →
      RecordRun (pairKey e.station) (l.countP fun f => (f.handed s.cfg.params.fightEffort own).confirms) u.report.findings
        (l.foldl (fun u f => u.handPair f.station (f.handed s.cfg.params.fightEffort own)) u).report.findings :=
    fun l u h => foldl_recordRun (info := Entry.handed s.cfg.params.fightEffort own) (fun u _ => handPair_step u rfl) l
      (fun f fmem same => h f fmem (by simpa [Entry.handed, pairKey] using same)) u
  have second := others pre u fun f fmem => apart _ (List.mem_map_of_mem fmem) _ (List.mem_cons_self ..)
  obtain ⟨walked, entries⟩ := pairsHanded_table own distinct frame table split.symm
  generalize pre.foldl _ u = v at second walked entries fold
  have third := others post (v.handPair e.station (e.handed s.cfg.params.fightEffort own)) fun f fmem same =>
    (List.nodup_cons.mp later).1 (same ▸ List.mem_map_of_mem fmem)
  have core := (frame.trans walked).toKeepsCore
  have distinct_v : v.StationsDistinct := (frame.trans walked).stationsDistinct (by
    rw [State.StationsDistinct, rescored_stations]
    exact distinct)
  have found : v.entry e.station = some (e.evaluate s.cfg.params.fightEffort own) := by
    have stands := distinct_v.entry_eq (e := e.evaluate s.cfg.params.fightEffort own) (by rw [entries]; simp)
    rwa [Entry.evaluate_station] at stands
  have turn := handPair_findings distinct_v found (x := e.handed s.cfg.params.fightEffort own) rfl
  rw [Entry.evaluate_ownership, core.eval, (frame.trans walked).running] at turn
  rw [turn] at third
  rw [fold]
  refine ⟨_, _, ⟨_, first.trans second, third⟩, ?_⟩
  rw [State.mayConfirm, split]
  omega

omit keyed in
/-- A completion makes no record but for a candidate. -/
theorem updateCandidates_stranger {f : Finding} (mem : f ∈ (s.updateCandidates own).report.findings)
    (noLocal : ∀ x ∈ s.locals, x.key ≠ f.key) (noPair : ∀ e ∈ s.table.entries, pairKey e.station ≠ f.key) :
    f ∈ s.report.findings := by
  rw [updateCandidates_eq] at mem
  have pairs := foldl_recordRun (k := f.key)
    (hand := fun u e => u.handPair e.station (Entry.handed s.cfg.params.fightEffort own e))
    (info := Entry.handed s.cfg.params.fightEffort own) (fun u _ => handPair_step u rfl) s.table.entries noPair
  have locals := foldl_recordRun (k := f.key)
    (hand := fun u y => u.handLocal (LocalCandidate.handed s.cfg s.acq.frozen s.eval.epochChanged y))
    (info := LocalCandidate.handed s.cfg s.acq.frozen s.eval.epochChanged) (fun u _ => handLocal_step u _) s.locals noLocal
    (s.rescored own)
  exact locals.old f ((pairs _).old f mem rfl) rfl

end

end Sys2Proof.Machine
end

/-! The completion of an evaluation as a command, and what it makes of the local candidates (R61, R63, R66, R69, R159). -/

section
namespace Sys2Proof.Machine

/-! ### The completion as a command -/

section
variable {s : State}

/-- The state in which the results of the period are published: what follows is the held outcomes, the receive queue, the
finding telegrams and the FIFO (R25, R26, R28). -/
def State.published (t : Nat) (s : State) : State :=
  ((s.judging t).updateCandidates s.ownSummary).publish s.ownSummary

theorem completed_published (t : Nat) (s : State) :
    s.completed t = ((s.published t).applyHeld.takeReceived.queueFindings).modAcq (.drainAll s.cfg) := rfl

theorem published_findings (t : Nat) (s : State) :
    (s.published t).report.findings = ((s.judging t).updateCandidates s.ownSummary).report.findings := rfl

theorem exec_completion (runs : s.running = true) (evaluating : s.evaluating = true) :
    ∃ t, s.eval.inFlight = some t ∧ exec .evaluationCompletion s = .next (s.completed t).access.driveLines := by
  obtain ⟨t, flight⟩ := Option.isSome_iff_exists.mp evaluating
  exact ⟨t, flight, execEvaluationCompletion_eq s runs flight⟩

/-- The evaluator and the local candidates as the command leaves them. -/
theorem completion_core (t : Nat) (s : State) :
    (s.completed t).access.driveLines.eval = { s.decided with summary := some s.ownSummary }
      ∧ (s.completed t).access.driveLines.locals
          = s.locals.map (LocalCandidate.evaluate s.cfg s.acq.frozen s.decided.epochChanged) :=
  ⟨(access_onlyLine _).eval.trans (completed_keepsCore t s).eval,
    (access_onlyLine _).locals.trans (completed_keepsCore t s).locals⟩

end

/-! ### What the rest of a completion does to the records of local candidates -/

/-- The records of local candidates are those of the list. -/
def State.LocalRecords (l : List Finding) (s : State) : Prop :=
  ∀ f : Finding, f.key.kind ≠ .crossFight → (f ∈ s.report.findings ↔ f ∈ l)

section
variable {l : List Finding} {s : State}

theorem ne_pairKey {k : Key} (h : k.kind ≠ .crossFight) (p : Nat) : k ≠ pairKey p := fun same => h (same ▸ rfl)

theorem PairWork.localRecords {p : Nat} {t : State} (work : PairWork p s t) (h : s.LocalRecords l) : t.LocalRecords l :=
  fun f kind => (work.only.records f (ne_pairKey kind p)).trans (h f kind)

theorem localRecordsLaw (l : List Finding) : DigestLaw (State.LocalRecords l) where
  refreshed _ _ _ _ h := h
  unfollowed p s h := (unfollow_work p s).localRecords h
  follower p s h := (becomeFollower_work p s).localRecords h
  removed p s h f kind := (removeEntry_findings_of_ne p s (ne_pairKey kind p)).trans (h f kind)
  enrolled _ _ _ _ h _ _ := h
  refused _ h := h
  duplicate _ h := h

theorem takeOne_localRecords (s : State) (r : Received) (h : s.LocalRecords l) : (s.takeOne r).LocalRecords l := by
  cases r with
  | digest source d => exact (localRecordsLaw l).takeDigest source d h
  | query source what start =>
    intro f kind
    rw [State.takeOne, takeQuery_findings]
    exact h f kind

/-- Once the candidates are updated, a completion concerns records of pairs alone. -/
theorem completed_localRecords (t : Nat) (s : State) :
    (s.completed t).LocalRecords ((s.judging t).updateCandidates s.ownSummary).report.findings := by
  have held : (s.published t).applyHeld.LocalRecords (s.published t).report.findings :=
    foldl_keeps (f := fun s (h : HeldOutcome) => s.applyClaimOutcome h.peer h.outcome)
      (fun u x h => (applyClaimOutcome_work x.peer u x.outcome).localRecords h) _
      (s := (s.published t).modLine fun l => { l with held := [] }) fun _ _ => Iff.rfl
  exact foldl_keeps takeOne_localRecords _ (s := (s.published t).applyHeld.modLine fun l => { l with received := [] }) held

theorem completion_localRecord {t : Nat} {f : Finding} (kind : f.key.kind ≠ .crossFight)
    (mem : f ∈ ((s.judging t).updateCandidates s.ownSummary).report.findings) :
    f ∈ (s.completed t).access.driveLines.report.findings := by
  rw [(access_onlyLine _).findings]
  exact (completed_localRecords t s f kind).mpr mem

end

/-! ### The candidates and their records -/

/-- What is handed over for an active local candidate (R63, R66, R69). -/
theorem LocalCandidate.handed_of_active {x : LocalCandidate} (active : x.active = true) (c : Configuration) (b : Bank)
    (changed : Bool) :
    x.handed c b changed =
      { key := x.key, before := x.scored.state
        after := (x.scored.update x.key.kind (localVerdict c b changed x.key)).state
        score := (x.scored.update x.key.kind (localVerdict c b changed x.key)).score } := by
  rw [LocalCandidate.handed, LocalCandidate.evaluate, if_pos active]

theorem Finding.retire_eq (f : Finding) :
    f.retire = { f with status := .retired, announced := if f.holder = .self then false else f.announced } := by
  simp [Finding.retire]

theorem Finding.retire_done {f : Finding}
    (h : ¬(f.acknowledged = true ∧ (if f.holder = .self then false else f.announced) = true)) : f.retire.done = false := by
  rw [Finding.retire_eq, ← Bool.not_eq_true, done_iff]
  exact fun ⟨_, gone⟩ => h gone

/-- An active record has the state of its candidate as its status (R160). -/
theorem RecordLaw.reports {v : CandView} {l : List Finding} (law : RecordLaw v l) {f : Finding} (mem : f ∈ l)
    (active : f.status.isActive = true) {c : CandState} (found : v f.key = some c) : f.status.reports c = true := by
  obtain ⟨d, found', reports⟩ := law.active f mem active
  rw [found] at found'
  cases found'
  exact reports

/-- The record of a candidate that is not CONFIRMED or RECOVERING is an old one. -/
theorem RecordLaw.old {v : CandView} {l : List Finding} (law : RecordLaw v l) {k : Key} {c : CandState}
    (found : v k = some c) (idle : c.confirmedOrRecovering = false) :
    ∀ r ∈ l, r.key = k → r.status.isActive = false ∧ r.done = false := fun r mem key => by
  refine ⟨?_, law.kept r mem⟩
  by_contra active
  have reports := law.reports mem (by simpa using active) (key ▸ found)
  rw [RecordStatus.confirmedOrRecovering_of_reports reports] at idle
  cases idle

/-- Only RECOVERING goes to CLEAR from a state that a record reports (R67). -/
theorem recovering_of_cleared {c : CandState} {n : Nat} (confirmed : c.confirmedOrRecovering = true)
    (clear : nextState c n = .clear) : c = .recovering := by
  rcases confirmedOrRecovering_cases confirmed with rfl | rfl
  · rw [nextState] at clear
    split at clear <;> cases clear
  · rfl

section
variable {s : State} {x : LocalCandidate} (t : Nat) (listed : s.Listed) (law : RecordLaw s.view s.report.findings)
  (mem : x ∈ s.locals)

include listed mem

theorem local_kind : x.key.kind ≠ .crossFight := localKeys_kind (listed.locals ▸ List.mem_map_of_mem mem : x.key ∈ localKeys)

include law

/-- The record that a completion makes for a local candidate that confirms (R159). -/
theorem completion_local_confirmed (suspect : x.scored.state = .suspect)
    (confirmed : (x.handed s.cfg s.acq.frozen s.decided.epochChanged).after = .confirmed)
    (room : s.record x.key = none
      ∨ s.report.findings.length + s.locals.countP (fun y => y.scored.state == .suspect) ≤ 25) :
    (x.handed s.cfg s.acq.frozen s.decided.epochChanged).newRecord .self false s.eval.sequence (s.record x.key)
      ∈ (s.completed t).access.driveLines.report.findings := by
  obtain ⟨before, after, turn, few, -⟩ := local_ownTurn s.ownSummary (s := s.judging t) listed.locals mem
  have made : (x.handed s.cfg s.acq.frozen s.decided.epochChanged).confirms = true := by
    rw [Handed.confirms, confirmed]
    simp [LocalCandidate.handed, suspect]
  have fits : s.record x.key = none ∨ s.report.findings.length + before ≤ 24 := room.imp id fun room => by
    have one : before + 1 ≤ s.locals.countP (fun y => y.scored.state == .suspect) :=
      (congrArg (before + ·.toNat) made).symm.trans_le few
    omega
  exact completion_localRecord (local_kind listed mem)
    (turn.confirmed law.keys (law.old (listed.view_local mem) (by rw [suspect]; rfl)) suspect confirmed fits)

variable {f : Finding} (fmem : f ∈ s.report.findings) (key : f.key = x.key) (active : f.status.isActive = true)

include fmem key active

theorem local_reports : f.status.reports x.scored.state = true :=
  law.reports fmem active (key ▸ listed.view_local mem)

/-- The record of a local candidate that is CONFIRMED or RECOVERING after a completion (R69, R160). -/
theorem completion_local_turned
    (stays : (x.handed s.cfg s.acq.frozen s.decided.epochChanged).after.confirmedOrRecovering = true) :
    (f.turned (x.handed s.cfg s.acq.frozen s.decided.epochChanged).after.status).scored
      (x.handed s.cfg s.acq.frozen s.decided.epochChanged).score ∈ (s.completed t).access.driveLines.report.findings := by
  obtain ⟨before, after, turn, -, -⟩ := local_ownTurn s.ownSummary (s := s.judging t) listed.locals mem
  have kind : f.key.kind ≠ .crossFight := key ▸ local_kind listed mem
  exact completion_localRecord kind (turn.turned fmem key (local_reports listed law mem fmem key active) stays)

omit law in
/-- The record of a local candidate that clears in a completion (R160). -/
theorem completion_local_retired (recovering : x.scored.state = .recovering)
    (clears : (x.handed s.cfg s.acq.frozen s.decided.epochChanged).after = .clear)
    (room : s.report.findings.length + s.mayConfirm ≤ 24) (undone : f.retire.done = false) :
    f.retire ∈ (s.completed t).access.driveLines.report.findings := by
  obtain ⟨before, after, turn, -, few⟩ := local_ownTurn s.ownSummary (s := s.judging t) listed.locals mem
  have kind : f.key.kind ≠ .crossFight := key ▸ local_kind listed mem
  have fits : s.report.findings.length + before + after ≤ 24 := by
    have : before + _ + after ≤ s.mayConfirm := few
    omega
  exact completion_localRecord kind (turn.retired fmem key active recovering clears rfl undone fits)

end

/-- Settles O25: each local candidate's own turn in the completion (`local_ownTurn`). -/
theorem localCandidatesScored : Obligations.LocalCandidatesScored := by
  refine ⟨fun s runs evaluating => ?_, fun s x runs evaluating bounded mem active suspect room => ?_,
    fun s x f runs evaluating bounded mem active fmem key factive => ?_⟩ <;>
    obtain ⟨t, -, answer⟩ := exec_completion runs evaluating <;>
    obtain ⟨eval, locals⟩ := completion_core t s <;>
    refine ⟨_, answer, ?_⟩ <;>
    rw [eval]
  · exact locals
  · obtain ⟨listed, law⟩ := State.listBounded_iff.mp bounded
    rintro v rfl confirms
    have handed := x.handed_of_active active s.cfg s.acq.frozen s.decided.epochChanged
    have confirmed : (x.handed s.cfg s.acq.frozen s.decided.epochChanged).after = .confirmed := by
      rw [handed, Scored.update, suspect]
      exact if_pos confirms
    have told := completion_local_confirmed t listed law mem suspect confirmed room
    rw [handed] at told
    cases old : s.record x.key <;> rw [old] at told <;> exact told
  · obtain ⟨listed, law⟩ := State.listBounded_iff.mp bounded
    have handed := x.handed_of_active active s.cfg s.acq.frozen s.decided.epochChanged
    have turned := completion_local_turned t listed law mem fmem key factive
    have retired := completion_local_retired t listed mem fmem key factive
    have reports := local_reports listed law mem fmem key factive
    rw [handed] at turned retired
    refine ⟨fun confirmed => ?_, fun recovering => ?_, fun clear room undone => ?_⟩
    · have told := turned (by rw [confirmed]; rfl)
      rw [confirmed] at told
      exact told
    · have told := turned (by rw [recovering]; rfl)
      rw [recovering] at told
      exact told
    · have was := recovering_of_cleared (RecordStatus.confirmedOrRecovering_of_reports reports) clear
      have told := retired was clear room (Finding.retire_done undone)
      rwa [Finding.retire_eq] at told

end Sys2Proof.Machine
end

/-! The pair candidates at the completion of an evaluation (R98, R108, R116, R133, R159 to R161). -/

section
namespace Sys2Proof.Machine

/-! ### One entry -/

/-- The candidate of an entry clears, and its ownership is released with it (R133). -/
def Entry.Released (before : CandState) (g : Entry) : Prop :=
  before = .recovering ∧ g.pair.state = .clear ∧ (g.ownership = .holder ∨ g.ownership = .claiming)

/-- An entry meets the conditions of R116. -/
def Entry.MayClaim (g : Entry) : Prop := g.pair.state.confirmedOrRecovering = true ∧ g.ownership = .unheld

section
variable {before : CandState} {g : Entry}

theorem Entry.claim_of_mayClaim (h : g.MayClaim) : g.claim true = { g with ownership := .claiming, claimAttempts := 0 } := by
  rw [Entry.claim, if_pos (by simp [h.1, h.2])]

theorem Entry.claim_of_not (h : ¬g.MayClaim) : g.claim true = g := by
  rw [Entry.claim, if_neg]
  simpa [Entry.MayClaim] using h

theorem Entry.coordinate_of_released (h : g.Released before) :
    g.coordinate true before g.pair.state =
      { g with ownership := .unheld, claimAttempts := if g.ownership = .claiming then 0 else g.claimAttempts } := by
  obtain ⟨was, clear, owned⟩ := h
  have quiet : ¬g.release.MayClaim := fun may => by
    have confirmed := may.1
    rw [Entry.release_pair, clear] at confirmed
    cases confirmed
  rw [Entry.coordinate, if_pos ⟨was, clear⟩, Entry.claim_of_not quiet, Entry.release, if_pos (by simpa using owned),
    Entry.dropClaim]
  by_cases claiming : g.ownership = .claiming
  · rw [if_pos (by simpa using claiming), if_pos claiming]
  · rw [if_neg (by simpa using claiming), if_neg claiming]

theorem Entry.coordinate_of_mayClaim (h : g.MayClaim) :
    g.coordinate true before g.pair.state = { g with ownership := .claiming, claimAttempts := 0 } := by
  have stays : ¬(before = .recovering ∧ g.pair.state = .clear) := fun ⟨_, clear⟩ => by
    have confirmed := h.1
    rw [clear] at confirmed
    cases confirmed
  rw [Entry.coordinate, if_neg stays, Entry.claim_of_mayClaim h]

theorem Entry.coordinate_of_quiet (kept : ¬g.Released before) (quiet : ¬g.MayClaim) :
    g.coordinate true before g.pair.state = g := by
  have same : (if before = .recovering ∧ g.pair.state = .clear then g.release else g) = g := by
    split
    · rename_i clears
      exact if_neg fun owned => kept ⟨clears.1, clears.2, by simpa using owned⟩
    · rfl
  rw [Entry.coordinate, same, Entry.claim_of_not quiet]

end

theorem Entry.testedFrom_recovering (epoch : Byte) (e : Entry) :
    e.testedFrom epoch = .recovering ↔ e.pair.state = .recovering := by
  rcases e.testedFrom_or epoch with same | ⟨idle, idle'⟩
  · rw [same]
  · refine ⟨fun h => ?_, fun h => ?_⟩
    · rw [h] at idle'
      cases idle'
    · rw [h] at idle
      cases idle

theorem Entry.evaluate_claimAttempts (fight : Nat) (own : Summary) (e : Entry) :
    (e.evaluate fight own).claimAttempts = e.claimAttempts := by
  unfold Entry.evaluate Entry.checkReservation
  dsimp only
  split
  · split <;> rfl
  · rfl

section
variable (fight : Nat) (own : Summary) (e : Entry)

/-- An entry evaluated is coordinated from the state that stood before (R133). -/
theorem Entry.evaluated_released (h : (e.evaluate fight own).Released e.pair.state) :
    e.evaluated true fight own = { e.evaluate fight own with
      ownership := .unheld, claimAttempts := if e.ownership = .claiming then 0 else e.claimAttempts } := by
  have released : (e.evaluate fight own).Released (e.testedFrom own.epoch) := ⟨(e.testedFrom_recovering _).mpr h.1, h.2⟩
  have coordinated := Entry.coordinate_of_released released
  rwa [Entry.evaluate_ownership, Entry.evaluate_claimAttempts] at coordinated

theorem Entry.evaluated_quiet (kept : ¬(e.evaluate fight own).Released e.pair.state)
    (quiet : ¬(e.evaluate fight own).MayClaim) : e.evaluated true fight own = e.evaluate fight own :=
  Entry.coordinate_of_quiet (fun h => kept ⟨(e.testedFrom_recovering _).mp h.1, h.2⟩) quiet

/-- An entry at a completion: evaluated, its ownership released with its candidate, a claim queued (R98, R116, R133). -/
theorem Entry.evaluated_eq :
    let f := e.evaluate fight own
    let released := e.pair.state = .recovering ∧ f.pair.state = .clear ∧ (e.ownership = .holder ∨ e.ownership = .claiming)
    let claims := f.pair.state.confirmedOrRecovering = true ∧ e.ownership = .unheld
    e.evaluated true fight own =
      { f with
        ownership := if released then .unheld else if claims then .claiming else e.ownership
        claimAttempts := if claims ∨ (released ∧ e.ownership = .claiming) then 0 else e.claimAttempts } := by
  intro f released claims
  have ownership : f.ownership = e.ownership := e.evaluate_ownership fight own
  have attempts : f.claimAttempts = e.claimAttempts := e.evaluate_claimAttempts fight own
  have released_iff : f.Released e.pair.state ↔ released := by rw [Entry.Released, ownership]
  have claims_iff : f.MayClaim ↔ claims := by rw [Entry.MayClaim, ownership]
  by_cases gone : released
  · have unclaimed : ¬claims := fun h => by
      have confirmed := h.1
      rw [gone.2.1] at confirmed
      cases confirmed
    rw [e.evaluated_released fight own (released_iff.mpr gone), if_pos gone]
    simp only [unclaimed, gone, false_or, true_and]
    rfl
  · rw [if_neg gone]
    by_cases claim : claims
    · rw [if_pos claim, if_pos (.inl claim)]
      exact Entry.coordinate_of_mayClaim (claims_iff.mpr claim)
    · rw [if_neg claim, if_neg (not_or.mpr ⟨claim, fun h => gone h.1⟩),
        e.evaluated_quiet fight own (mt released_iff.mp gone) (mt claims_iff.mp claim), ← ownership, ← attempts]

end

/-! ### The records of the pairs -/

theorem handLocal_flags (s : State) (x : Handed) : (s.handLocal x).report.flags = s.report.flags := by
  rw [handLocal_report]

theorem updateCandidates_flags (own : Summary) (s : State) : (s.updateCandidates own).report.flags = s.report.flags := by
  rw [updateCandidates_eq]
  refine foldl_keeps (P := fun u => u.report.flags = s.report.flags) (fun u e h => (handPair_flags ..).trans h) _ ?_
  exact foldl_keeps (P := fun u => u.report.flags = s.report.flags)
    (f := fun u x => u.handLocal (LocalCandidate.handed s.cfg s.acq.frozen s.eval.epochChanged x))
    (fun u x h => (handLocal_flags ..).trans h) _ (s := s.rescored own) rfl

theorem State.Listed.view_entry {s : State} {e : Entry} (listed : s.Listed) (mem : e ∈ s.table.entries) :
    s.view (pairKey e.station) = some e.pair.state := by
  rw [State.view_pair, listed.distinct.entry_eq mem]
  rfl

/-- A candidate that a record reports is tested from the state that it reports. -/
theorem Entry.testedFrom_of_confirmed {e : Entry} (confirmed : e.pair.state.confirmedOrRecovering = true) (epoch : Byte) :
    e.testedFrom epoch = e.pair.state := congrArg Scored.state (Entry.checkReservation_of_confirmed confirmed epoch)

/-- A SUSPECT candidate that confirms kept its reservation (R103). -/
theorem Entry.testedFrom_of_confirms {e : Entry} {fight : Nat} {own : Summary} (suspect : e.pair.state = .suspect)
    (confirms : (e.evaluate fight own).pair.state = .confirmed) : e.testedFrom own.epoch = .suspect := by
  rw [Entry.evaluate_state] at confirms
  rcases e.testedFrom_or own.epoch with same | ⟨-, idle⟩
  · rw [← same, suspect]
  · cases was : e.testedFrom own.epoch with
    | suspect => rfl
    | clear => rw [was, nextState_clear] at confirms; split at confirms <;> cases confirms
    | confirmed => rw [was] at idle; cases idle
    | recovering => rw [was] at idle; cases idle

/-- The record of a pair that is CONFIRMED or RECOVERING after a completion (R69, R160, R161). -/
theorem published_pair_turned {s : State} {e : Entry} (t : Nat) (keyed : s.locals.map LocalCandidate.key = localKeys)
    (distinct : s.StationsDistinct) (mem : e ∈ s.table.entries) {f : Finding} (fmem : f ∈ s.report.findings)
    (key : f.key = pairKey e.station) (reports : f.status.reports e.pair.state = true) (runs : s.running = true)
    (stays : (e.evaluate s.cfg.params.fightEffort s.ownSummary).pair.state.confirmedOrRecovering = true) :
    { f with
      status := (e.evaluate s.cfg.params.fightEffort s.ownSummary).pair.state.status
      peak := max f.peak (e.evaluate s.cfg.params.fightEffort s.ownSummary).pair.score
      holder := if e.ownership = Ownership.unheld then .self else f.holder } ∈ (s.published t).report.findings := by
  obtain ⟨before, after, turn, -⟩ := pair_ownTurn s.ownSummary (s := s.judging t) keyed distinct (e := e) mem
  have tested := Entry.testedFrom_of_confirmed (RecordStatus.confirmedOrRecovering_of_reports reports) s.ownSummary.epoch
  have told := turn.turned fmem key (by rw [← tested] at reports; exact reports) stays
  have claims : ((s.judging t).running
      && (e.evaluate s.cfg.params.fightEffort s.ownSummary).pair.state.confirmedOrRecovering && e.ownership == .unheld)
        = (e.ownership == .unheld) := by rw [State.judging_running, runs, stays]; rfl
  have same := claims ▸ told
  by_cases unheld : e.ownership = .unheld
  · rw [if_pos (by simpa using unheld)] at same
    rwa [if_pos unheld]
  · rw [if_neg (by simpa using unheld)] at same
    rwa [if_neg unheld]

section
variable {s : State} {e : Entry} (t : Nat) (listed : s.Listed) (law : RecordLaw s.view s.report.findings)
  (mem : e ∈ s.table.entries)

include listed law mem

/-- The record that a completion makes for a pair that confirms (R159). -/
theorem published_pair_confirmed (suspect : e.pair.state = .suspect)
    (confirms : (e.evaluate s.cfg.params.fightEffort s.ownSummary).pair.state = .confirmed)
    (room : s.record (pairKey e.station) = none ∨ s.report.findings.length + s.mayConfirm ≤ 25) :
    (e.handed s.cfg.params.fightEffort s.ownSummary).newRecord (if e.ownership = .follower then .partner e.station else .self)
      true s.eval.sequence (s.record (pairKey e.station)) ∈ (s.published t).report.findings := by
  obtain ⟨before, after, turn, few⟩ := pair_ownTurn s.ownSummary (s := s.judging t) listed.locals listed.distinct (e := e) mem
  have tested := Entry.testedFrom_of_confirms suspect confirms
  have made : (e.handed s.cfg.params.fightEffort s.ownSummary).confirms = true := by
    simp [Handed.confirms, Entry.handed, tested, confirms]
  have fits : s.record (pairKey e.station) = none ∨ s.report.findings.length + before ≤ 24 := room.imp id fun room => by
    have one : before + 1 + after ≤ s.mayConfirm := (congrArg (before + ·.toNat + after) made).symm.trans_le few
    omega
  exact turn.confirmed law.keys (law.old (listed.view_entry mem) (by rw [suspect]; rfl)) tested confirms fits

variable {f : Finding} (fmem : f ∈ s.report.findings) (key : f.key = pairKey e.station) (active : f.status.isActive = true)

include fmem key active

theorem pair_reports : f.status.reports e.pair.state = true :=
  law.reports fmem active (key ▸ listed.view_entry mem)

/-- The record of a pair that clears in a completion (R160). -/
theorem published_pair_retired (clears : (e.evaluate s.cfg.params.fightEffort s.ownSummary).pair.state = .clear)
    (room : s.report.findings.length + s.mayConfirm ≤ 24) (undone : f.retire.done = false) :
    f.retire ∈ (s.published t).report.findings := by
  obtain ⟨before, after, turn, few⟩ := pair_ownTurn s.ownSummary (s := s.judging t) listed.locals listed.distinct (e := e) mem
  have confirmed := RecordStatus.confirmedOrRecovering_of_reports (pair_reports listed law mem fmem key active)
  have tested := Entry.testedFrom_of_confirmed confirmed s.ownSummary.epoch
  have recovering : e.pair.state = .recovering := recovering_of_cleared confirmed (by
    rw [← tested]
    exact clears)
  have fits : s.report.findings.length + before + after ≤ 24 := by
    have : before + _ + after ≤ s.mayConfirm := few
    omega
  have unclaimed : ((s.judging t).running
      && (e.evaluate s.cfg.params.fightEffort s.ownSummary).pair.state.confirmedOrRecovering && e.ownership == .unheld)
        = false := by rw [clears]; simp [CandState.confirmedOrRecovering]
  exact turn.retired fmem key active (tested.trans recovering) clears unclaimed undone fits

end

/-! ### A completion with nothing waiting -/

section
variable {s : State} (t : Nat)

theorem published_course (t : Nat) (s : State) : s.line.Course (s.published t).line :=
  (updateCandidates_frame s.ownSummary (s.judging t)).course.trans (Line.submitDigest_course _)

/-- With nothing waiting, table and records are those that the published results leave. -/
theorem completed_of_idle (received : s.line.received = []) (held : s.line.held = []) :
    (s.completed t).table = (s.published t).table ∧ (s.completed t).report = (s.published t).report := by
  have course := published_course t s
  have noHeld : (s.published t).line.held = [] := List.sublist_nil.mp (held ▸ course.held)
  have settled : (s.published t).applyHeld = (s.published t).modLine fun l => { l with held := [] } := by
    rw [State.applyHeld, noHeld]
    rfl
  have taken : (s.published t).applyHeld.takeReceived
      = ((s.published t).modLine fun l => { l with held := [] }).modLine fun l => { l with received := [] } := by
    rw [settled, State.takeReceived, State.modLine_line, course.received, received]
    rfl
  rw [completed_published, taken]
  exact ⟨rfl, rfl⟩

end

/-- Settles O29: the entries as the coordinator leaves them, and each pair's own turn in the completion (`pair_ownTurn`). -/
theorem pairCandidatesScored : Obligations.PairCandidatesScored := by
  intro s runs evaluating lawful received held
  obtain ⟨t, -, answer⟩ := exec_completion runs evaluating
  obtain ⟨eval, -⟩ := completion_core t s
  obtain ⟨table, report⟩ := completed_of_idle t received held
  have distinct : s.StationsDistinct := (State.queueLawful_iff.mp lawful).distinct
  have only := access_onlyLine (s.completed t)
  refine ⟨_, answer, fun own published => ?_⟩
  obtain rfl : s.ownSummary = own := by
    rw [eval] at published
    exact Option.some.inj published
  have entries : (s.completed t).access.driveLines.table = { s.table with
      entries := s.table.entries.map (Entry.evaluated true s.cfg.params.fightEffort s.ownSummary) } := by
    have updated := updateCandidates_table s.ownSummary (s := s.judging t) distinct
    rw [State.judging_running, runs] at updated
    exact only.table.trans (table.trans updated)
  have findings : (s.completed t).access.driveLines.report.findings = (s.published t).report.findings := by
    rw [only.findings, report]
  refine ⟨?_, fun e mem claiming => ?_, by rw [entries], by rw [entries], ?_, fun f mem noLocal noPair => ?_,
    fun bounded e mem => ⟨fun suspect confirms room => ?_, fun f fmem key active => ⟨fun confirmed => ?_, fun recovering => ?_,
      fun clear room undone => ?_⟩⟩⟩
  · rw [entries]
    exact List.map_congr_left fun e _ => e.evaluated_eq _ _
  · have stands : (s.completed t).access.driveLines.StationsDistinct := by
      rw [State.StationsDistinct, entries, List.map_map]
      simpa [Function.comp_def] using distinct
    rw [exec_claims lawful answer, stands.entry_eq mem, Option.any_some, claiming]
    rfl
  · rw [only.flags, report]
    exact updateCandidates_flags s.ownSummary (s.judging t)
  · rw [findings] at mem
    exact updateCandidates_stranger s.ownSummary (s := s.judging t) mem noLocal noPair
  all_goals
    obtain ⟨listed, law⟩ := State.listBounded_iff.mp bounded
    rw [findings]
  · have made := published_pair_confirmed t listed law mem suspect confirms room
    rw [Handed.newRecord] at made
    cases old : s.record (pairKey e.station) <;> rw [old, Entry.handed, confirms] at made <;> exact made
  · have reports := pair_reports listed law mem fmem key active
    have told := published_pair_turned t listed.locals distinct mem fmem key reports runs (by rw [confirmed]; rfl)
    rw [confirmed] at told
    exact told
  · have reports := pair_reports listed law mem fmem key active
    have told := published_pair_turned t listed.locals distinct mem fmem key reports runs (by rw [recovering]; rfl)
    rw [recovering] at told
    exact told
  · have told := published_pair_retired t listed law mem fmem key active clear room (Finding.retire_done undone)
    rwa [Finding.retire_eq] at told

end Sys2Proof.Machine
end

/-! What the steps of a completion leave of the transmit queue and of the keys of the records: no finding telegram is new,
a digest that stands goes on standing, and keys stay distinct (R29, R158, R163). -/

section
namespace Sys2Proof.Machine

/-! ### The queue without new finding telegrams -/

/-- The queue goes on without a new finding telegram, and with its digest. -/
structure Line.Steady (l m : Line) : Prop where
  findings : ∀ q ∈ m.queue, q.telegram.isFinding = true → q ∈ l.queue
  digest : l.holds .digest = true → m.holds .digest = true

namespace Line.Steady

variable {l m n : Line}

theorem of_queue (same : m.queue = l.queue) : Steady l m :=
  ⟨fun _ mem _ => same ▸ mem, fun h => (Line.holds_congr same).trans h⟩

theorem refl (l : Line) : Steady l l := of_queue rfl

theorem trans (h : Steady l m) (k : Steady m n) : Steady l n :=
  ⟨fun q mem finding => h.findings q (k.findings q mem finding) finding, k.digest ∘ h.digest⟩

theorem submit {o : Outgoing} (other : o.isFinding = false) (l : Line) : Steady l (l.submit o) where
  findings q mem finding := by
    rcases List.mem_append.mp mem with old | new
    · exact old
    · obtain rfl := List.mem_singleton.mp new
      exact absurd finding (by simp [other])
  digest h := by
    rw [Line.holds_iff] at h ⊢
    rw [Line.telegrams_submit]
    exact List.mem_append_left _ h

theorem leave {o : Outgoing} (other : o ≠ .digest) (l : Line) : Steady l (l.leave o) where
  findings q mem _ := (List.mem_filter.mp mem).1
  digest h := by simp [h, other.symm]

theorem withdraw {o : Outgoing} (other : o ≠ .digest) (l : Line) : Steady l (l.withdraw o) :=
  (leave other l).trans (of_queue (l.withdraw_queue o))

theorem countAttempt {o : Outgoing} (other : o.isFinding = false) (l : Line) : Steady l (l.countAttempt o) where
  findings q mem finding := (Line.mem_countAttempt_of_ne fun same => by simp [← same, finding] at other).mp mem
  digest h := (Line.holds_countAttempt ..).trans h

theorem submitDigest (l : Line) : Steady l l.submitDigest := by
  unfold Line.submitDigest
  split
  · refine ⟨fun q mem finding => ?_, fun h => ?_⟩
    · obtain ⟨x, xmem, rfl⟩ := List.mem_map.mp mem
      split at finding
      · rename_i digest
        rw [beq_iff_eq.mp digest] at finding
        cases finding
      · rename_i other
        rwa [if_neg other]
    · rw [Line.holds_iff] at h ⊢
      obtain ⟨x, xmem, digest⟩ := List.mem_map.mp h
      exact List.mem_map.mpr ⟨_, List.mem_map_of_mem xmem, by rw [if_pos (by simp [digest])]; exact digest⟩
  · exact submit rfl l

end Line.Steady

/-- R154: a DIGEST stands once it is submitted. -/
theorem Line.holds_submitDigest (l : Line) : l.submitDigest.holds .digest = true := by
  by_cases held : l.holds .digest = true
  · exact (Steady.submitDigest l).digest held
  · rw [Line.submitDigest, if_neg held]
    simp

/-! ### Tidy changes -/

/-- A change that submits no finding telegram, keeps a digest that stands, and keeps keys distinct. -/
structure Tidy (s t : State) : Prop where
  line : s.line.Steady t.line
  keys : (s.report.findings.map Finding.key).Nodup → (t.report.findings.map Finding.key).Nodup

namespace Tidy

variable {s t u : State}

theorem refl (s : State) : Tidy s s := ⟨.refl _, id⟩

theorem trans (h : Tidy s t) (k : Tidy t u) : Tidy s u := ⟨h.line.trans k.line, k.keys ∘ h.keys⟩

theorem modLine {f : Line → Line} (s : State) (steady : s.line.Steady (f s.line)) : Tidy s (s.modLine f) := ⟨steady, id⟩

/-- A change of neither queue nor records. -/
theorem of_same (line : t.line.queue = s.line.queue) (report : t.report.findings = s.report.findings) : Tidy s t :=
  ⟨.of_queue line, fun keys => report ▸ keys⟩

theorem modEntry (p : Nat) (f : Entry → Entry) (s : State) : Tidy s (s.modEntry p f) := of_same rfl rfl

theorem modActiveRecord (k : Key) {g : Finding → Finding} (key : ∀ r, (g r).key = r.key) (s : State) :
    Tidy s (s.modActiveRecord k g) :=
  ⟨.refl _, fun keys => keys.sublist (changeRecord_keys (fun r => by split; exacts [key r, rfl]) _)⟩

end Tidy

section
variable (p : Nat) (s : State)

theorem recordFollows_tidy : Tidy s (s.recordFollows p) := by
  unfold State.recordFollows
  dsimp only
  split
  · exact (Tidy.modLine s (.withdraw (by nofun) _)).trans (.modActiveRecord _ (fun _ => by rfl) _)
  · exact .modActiveRecord _ (fun _ => by rfl) _

theorem testClaim_tidy : Tidy s (s.testClaim p) := by
  unfold State.testClaim
  split
  · exact .refl s
  · split
    · exact ((Tidy.modLine s (.submit rfl _)).trans (.modEntry ..)).trans (.modActiveRecord _ (fun _ => by rfl) _)
    · exact .refl s

theorem withdrawIfClaiming_tidy : Tidy s (s.withdrawIfClaiming p) := by
  unfold State.withdrawIfClaiming
  split
  · exact (Tidy.modLine s ((Line.Steady.withdraw (by nofun) _).trans (.of_queue rfl))).trans (.of_same rfl rfl)
  · exact .refl s

theorem becomeFollower_tidy : Tidy s (s.becomeFollower p) :=
  ((withdrawIfClaiming_tidy p s).trans (.modEntry ..)).trans (recordFollows_tidy p _)

theorem unfollow_tidy : Tidy s (s.unfollow p) := by
  unfold State.unfollow
  split
  · exact (Tidy.modEntry p _ s).trans (testClaim_tidy p _)
  · exact .refl s

theorem settleHolder_tidy (corroborated : Bool) : Tidy s (s.settleHolder p corroborated) :=
  ((Tidy.modLine s (.leave (by nofun) _)).trans (.modEntry ..)).trans (.modActiveRecord _ (fun _ => by rfl) _)

theorem settleStale_tidy : Tidy s (s.settleStale p) :=
  ((Tidy.modLine s (.leave (by nofun) _)).trans (.modEntry ..)).trans (.modActiveRecord _ (fun _ => by rfl) _)

theorem claimRetry_tidy (lost : Bool) : Tidy s (s.claimRetry p lost) := by
  have counted : Tidy s ((s.modEntry p fun e => { e with claimAttempts := e.claimAttempts + 1 }).modLine
      (.countAttempt (.claim p))) :=
    (Tidy.modEntry p _ s).trans (.modLine _ (.countAttempt rfl _))
  have spent : ∀ u, Tidy s u → Tidy s
      (if (u.entry p).any (fun e => 16 ≤ e.claimAttempts) then (u.settleHolder p false).flagTelegramDiscarded else u) := by
    intro u h
    split
    · exact (h.trans (settleHolder_tidy p u false)).trans (.of_same rfl rfl)
    · exact h
  unfold State.claimRetry
  dsimp only
  apply spent
  split
  · exact counted.trans (.of_same rfl rfl)
  · exact counted

theorem applyClaimOutcome_tidy (o : AttemptEnd) : Tidy s (s.applyClaimOutcome p o) := by
  unfold State.applyClaimOutcome
  split
  · cases o with
    | repeatMark => exact claimRetry_tidy p s false
    | stale => exact settleStale_tidy p s
    | concur => exact settleHolder_tidy p s true
    | noMark => exact settleHolder_tidy p s false
    | contentionLoss => exact claimRetry_tidy p s true
  · exact .refl s

theorem coordinate_tidy (before after : CandState) : Tidy s (s.coordinate p before after) := by
  unfold State.coordinate
  dsimp only
  refine Tidy.trans ?_ (testClaim_tidy p _)
  split
  · split
    · exact (withdrawIfClaiming_tidy p s).trans (.of_same rfl rfl)
    · exact withdrawIfClaiming_tidy p s
  · exact .refl s

theorem reportTransition_tidy (k : Key) (before after : CandState) (score : Nat) (holder : Holder) (announced : Bool) :
    Tidy s (s.reportTransition k before after score holder announced) := by
  unfold State.reportTransition
  split
  · exact ⟨.refl _, fun keys => RecordLaw.appendRecord_keys keys ..⟩
  · exact .modActiveRecord _ (fun _ => by rfl) _
  · exact .modActiveRecord _ (fun _ => by rfl) _
  · exact .modActiveRecord _ Finding.retire_key _
  · exact .refl s

theorem handLocal_tidy (h : Handed) : Tidy s (s.handLocal h) := by
  unfold State.handLocal
  dsimp only
  split
  · exact (reportTransition_tidy s ..).trans (.modActiveRecord _ (fun _ => by rfl) _)
  · exact reportTransition_tidy s ..

theorem handPair_tidy (h : Handed) : Tidy s (s.handPair p h) := by
  unfold State.handPair
  dsimp only
  split
  · exact ((coordinate_tidy p s _ _).trans (reportTransition_tidy _ ..)).trans (.modActiveRecord _ (fun _ => by rfl) _)
  · exact (coordinate_tidy p s _ _).trans (reportTransition_tidy _ ..)

theorem removeEntry_tidy : Tidy s (s.removeEntry p) := by
  have line : (s.removeEntry p).line.queue = (s.withdrawIfClaiming p).line.queue := congrArg Line.queue (removeEntry_line p s)
  refine ⟨(withdrawIfClaiming_tidy p s).line.trans (.of_queue line), fun keys => ?_⟩
  cases found : s.entry p with
  | none =>
    rw [State.removeEntry, found]
    exact keys
  | some e =>
    rw [removeEntry_findings found]
    split
    · exact (Tidy.modActiveRecord (pairKey p) Finding.withdrawn_key s).keys keys
    · exact keys

end

theorem tidyLaw (s : State) : DigestLaw (Tidy s) where
  refreshed _ _ _ _ h := h.trans (.of_same rfl rfl)
  unfollowed p u h := h.trans (unfollow_tidy p u)
  follower p u h := h.trans (becomeFollower_tidy p u)
  removed p u h := h.trans (removeEntry_tidy p u)
  enrolled _ _ _ _ h _ _ := h.trans (.of_same rfl rfl)
  refused _ h := h.trans (.of_same rfl rfl)
  duplicate _ h := h.trans (.of_same rfl rfl)

theorem takeOne_tidy (s u : State) (r : Received) (h : Tidy s u) : Tidy s (u.takeOne r) := by
  cases r with
  | digest source d => exact (tidyLaw s).takeDigest source d h
  | query source what start =>
    refine h.trans ⟨?_, fun keys => by rw [State.takeOne, takeQuery_findings]; exact keys⟩
    unfold State.takeOne State.takeQuery State.answerStatus State.answerList
    dsimp only
    split
    · exact .submit rfl _
    · split
      · exact .submit rfl _
      · exact .refl _

theorem takeReceived_tidy (s : State) : Tidy s s.takeReceived :=
  foldl_keeps (takeOne_tidy s) _ (s := s.modLine fun l => { l with received := [] }) (.of_same rfl rfl)

theorem applyHeld_tidy (s : State) : Tidy s s.applyHeld :=
  foldl_keeps (P := Tidy s) (f := fun s (h : HeldOutcome) => s.applyClaimOutcome h.peer h.outcome)
    (fun u x h => h.trans (applyClaimOutcome_tidy x.peer u x.outcome)) _ (s := s.modLine fun l => { l with held := [] })
    (.of_same rfl rfl)

theorem updateCandidates_tidy (own : Summary) (s : State) : Tidy s (s.updateCandidates own) := by
  rw [updateCandidates_eq]
  refine foldl_keeps (P := Tidy s) (fun u e h => h.trans (handPair_tidy e.station u _)) _ ?_
  exact foldl_keeps (P := Tidy s) (f := fun u x => u.handLocal (LocalCandidate.handed s.cfg s.acq.frozen s.eval.epochChanged x))
    (fun u x h => h.trans (handLocal_tidy u _)) _ (s := s.rescored own) (.of_same rfl rfl)

end Sys2Proof.Machine
end

/-! The epoch decided at a completion (R33), and the course of the line and the receive queue through it. -/

section
namespace Sys2Proof.Machine

/-! ### The epoch (R33, R34) -/

theorem definiteChange_iff {α : Type} [DecidableEq α] {a b : Option α} :
    definiteChange a b = true ↔ ∃ x y, a = some x ∧ b = some y ∧ x ≠ y := by
  cases a <;> cases b <;> simp [definiteChange]

theorem setpointStepped_iff {step : Nat} {mean reference : Option Nat} :
    setpointStepped step mean reference = true
      ↔ ∃ m r, mean = some m ∧ reference = some r ∧ step < ((m : Int) - (r : Int)).natAbs := by
  cases mean <;> cases reference <;> simp [setpointStepped]

theorem epochCause_iff {c : Configuration} {e : Evaluator} {b : Bank} :
    epochCause c e b = true ↔ b.occChanged = true
      ∨ (∃ x y, b.occLast = some x ∧ e.refOcc = some y ∧ x ≠ y)
      ∨ (∃ y, e.refFan = some y ∧ y ≠ fanProven b)
      ∨ (∃ m r, meanOf c b .spt = some m ∧ e.refSpt = some r
          ∧ c.params.setpointStep < ((m : Int) - (r : Int)).natAbs)
      ∨ e.firstEvaluation = true := by
  have fan : definiteChange (some (fanProven b)) e.refFan = true ↔ ∃ y, e.refFan = some y ∧ y ≠ fanProven b := by
    rw [definiteChange_iff]
    refine ⟨fun ⟨x, y, proven, known, differs⟩ => ⟨y, known, ?_⟩,
      fun ⟨y, known, differs⟩ => ⟨_, y, rfl, known, differs.symm⟩⟩
    cases proven
    exact differs.symm
  simp only [epochCause, Bool.or_eq_true, or_assoc, definiteChange_iff (a := b.occLast), setpointStepped_iff, fan]

/-! ### The course of the line -/

theorem drain_frozen (c : Configuration) (a : Acquisition) (x : Sample) : (a.drain c x).frozen = a.frozen := by
  unfold Acquisition.drain
  dsimp only
  split <;> rfl

theorem drainAll_frozen (c : Configuration) (a : Acquisition) : (a.drainAll c).frozen = a.frozen := by
  have kept : ∀ (l : List Sample) (a : Acquisition), (l.foldl (Acquisition.drain c) a).frozen = a.frozen := by
    intro l
    induction l with
    | nil => exact fun _ => rfl
    | cons x l ih => exact fun a => (ih _).trans (drain_frozen c a x)
  exact kept a.fifo { a with fifo := [] }

section
variable (t : Nat) (s : State)

theorem settled_course : s.line.Course (s.published t).applyHeld.line :=
  (published_course t s).trans (applyHeld_frame _).course

theorem access_line_course :
    s.access.driveLines.line.tracking = s.line.tracking ∧ s.access.driveLines.line.idle = s.line.idle
      ∧ s.access.driveLines.line.mark = s.line.mark ∧ s.access.driveLines.line.restartPending = s.line.restartPending
      ∧ s.access.driveLines.line.received = s.line.received ∧ s.access.driveLines.line.held = s.line.held
      ∧ s.access.driveLines.line.queue = s.line.queue ∧ s.access.driveLines.line.window = s.line.window := by
  rw [access_eq]
  exact ⟨rfl, rfl, rfl, rfl, rfl, rfl, rfl, rfl⟩

/-- What a completion leaves of the line, its queues and counts apart. -/
theorem completed_line_course :
    (s.completed t).line.tracking = s.line.tracking ∧ (s.completed t).line.idle = s.line.idle
      ∧ (s.completed t).line.mark = s.line.mark ∧ (s.completed t).line.restartPending = s.line.restartPending := by
  have settled := settled_course t s
  have taken := takeReceived_course (s.published t).applyHeld
  have announced := (queueFindings_frame (s.published t).applyHeld.takeReceived).course
  rw [completed_published, State.modAcq_line]
  exact ⟨announced.tracking.trans (taken.tracking.trans settled.tracking),
    announced.idle.trans (taken.idle.trans settled.idle), announced.mark.trans (taken.mark.trans settled.mark),
    announced.restartPending.trans (taken.restartPending.trans settled.restartPending)⟩

theorem published_digest : (s.published t).line.holds .digest = true := Line.holds_submitDigest _

theorem published_tidy : Tidy s (s.published t) :=
  have updated := updateCandidates_tidy s.ownSummary (s.judging t)
  ⟨updated.line.trans (.submitDigest _), updated.keys⟩

theorem completed_tidy : Tidy s (s.published t).applyHeld.takeReceived :=
  ((published_tidy t s).trans (applyHeld_tidy _)).trans (takeReceived_tidy _)

/-- The queue at the end of a completion: behind what stood before, a FINDING for each record that is to be told (R163). -/
theorem completion_findingsQueued (keys : (s.report.findings.map Finding.key).Nodup) :
    ∃ before : List Queued,
      FindingsQueued (s.completed t).access.driveLines.report.findings before (s.completed t).access.driveLines.line.queue
        ∧ (∃ q ∈ before, q.telegram = .digest) ∧ ∀ q ∈ before, q.telegram.isFinding = true → q ∈ s.line.queue := by
  have tidy := completed_tidy t s
  have digest := ((applyHeld_tidy (s.published t)).trans (takeReceived_tidy _)).line.digest (published_digest t s)
  obtain ⟨after, queued, made⟩ := queueFindings_eq (s.published t).applyHeld.takeReceived (tidy.keys keys)
  refine ⟨_, ?_, List.mem_map.mp (Line.holds_iff.mp digest), tidy.line.findings⟩
  have queue : (s.completed t).access.driveLines.line.queue = after := by
    refine (access_line_queue _).trans ?_
    rw [completed_published, made]
    rfl
  have findings : (s.completed t).access.driveLines.report.findings
      = (s.published t).applyHeld.takeReceived.report.findings := by
    rw [(access_onlyLine _).findings, completed_published, made]
    rfl
  rw [queue, findings]
  exact queued

end

/-! ### The own number heard (R83) -/

theorem timerLaw : DigestLaw fun u => u.table.duplicateTimer = 4 where
  refreshed _ _ _ _ h := h
  unfollowed p s h := (unfollow_work p s).only.duplicateTimer.trans h
  follower p s h := (becomeFollower_work p s).only.duplicateTimer.trans h
  removed p s h := (removeEntry_duplicateTimer p s).trans h
  enrolled _ _ _ _ h _ _ := h
  refused _ h := h
  duplicate _ _ := rfl

theorem takeOne_timer (s : State) (r : Received) (h : s.table.duplicateTimer = 4) :
    (s.takeOne r).table.duplicateTimer = 4 := by
  cases r with
  | digest source d => exact timerLaw.takeDigest source d h
  | query source what start =>
    rw [State.takeOne, takeQuery_table]
    exact h

/-- A digest that bears the own number sets the duplicate timer, whatever is taken before and behind it. -/
theorem takeReceived_timer {s : State} (runs : s.running = true) {d : Digest}
    (mem : Received.digest s.own d ∈ s.line.received) : s.takeReceived.table.duplicateTimer = 4 := by
  obtain ⟨pre, post, split⟩ := List.append_of_mem mem
  rw [State.takeReceived, split, List.foldl_append, List.foldl_cons]
  have loader := foldl_keeps (P := fun u => u.loader = s.loader) (f := State.takeOne)
    (fun u r h => (takeOne_keepsCore u r).loader.trans h) pre (s := s.modLine fun l => { l with received := [] }) rfl
  generalize pre.foldl _ _ = u at loader
  refine foldl_keeps takeOne_timer post ?_
  have own : u.own = s.own := by rw [State.own, loader]; rfl
  have running : u.running = true := by
    rw [← runs]
    simp only [State.running, State.stopped, loader]
  rw [State.takeOne, State.takeDigest, if_neg (by simp [running]), if_pos (by simp [own])]
  rfl

end Sys2Proof.Machine
end

/-! A claim whose outcome was held, through the completion that applies it (R28, R124 to R129). -/

section
namespace Sys2Proof.Machine

/-! ### The places of claims -/

theorem Line.holds_claim_submitDigest (p : Nat) (l : Line) : l.submitDigest.holds (.claim p) = l.holds (.claim p) := by
  unfold Line.submitDigest
  split
  · rw [Bool.eq_iff_iff, Line.holds_iff, Line.holds_iff]
    have same : (l.queue.map fun q => if q.telegram == .digest then { q with attempts := 0 } else q).map Queued.telegram
        = l.queue.map Queued.telegram := by
      rw [List.map_map]
      refine List.map_congr_left fun q _ => ?_
      simp only [Function.comp]
      split <;> rfl
    exact iff_of_eq (congrArg (Outgoing.claim p ∈ ·) same)
  · rw [Line.holds_submit, beq_eq_false_iff_ne.mpr (by nofun), Bool.or_false]

theorem Line.submitDigest_counts (l : Line) : l.submitDigest.window = l.window ∧ l.submitDigest.held = l.held := by
  unfold Line.submitDigest
  split <;> exact ⟨rfl, rfl⟩

/-- Announcing moves no telegram but a FINDING (R163). -/
theorem announceAll_holds {o : Outgoing} (other : o.isFinding = false) (records : List Finding) (l : Line) :
    (records.foldl Line.announce l).holds o = l.holds o := by
  induction records generalizing l with
  | nil => rfl
  | cons r records ih =>
    refine (ih _).trans ?_
    unfold Line.announce
    split
    · have apart : (Outgoing.finding r.key == o) = false := beq_eq_false_iff_ne.mpr fun same => by
        simp [← same, Outgoing.isFinding] at other
      rw [Line.holds_submit, apart, Bool.or_false]
    · rfl

/-- Work on one pair leaves the place of any other claim. -/
theorem OnlyPair.holds_claim {p q : Nat} {s t : State} (h : OnlyPair q s t) (other : p ≠ q) :
    t.line.holds (.claim p) = s.line.holds (.claim p) := by
  have places : ∀ x : Queued, x.telegram = .claim p → (x ∈ t.line.queue ↔ x ∈ s.line.queue) := fun x claim =>
    h.queue x (by rw [claim]; simpa using other) (by rw [claim]; nofun)
  rw [Bool.eq_iff_iff, Line.holds_iff, Line.holds_iff, Line.telegrams, Line.telegrams, List.mem_map, List.mem_map]
  exact ⟨fun ⟨x, mem, claim⟩ => ⟨x, (places x claim).mp mem, claim⟩,
    fun ⟨x, mem, claim⟩ => ⟨x, (places x claim).mpr mem, claim⟩⟩

/-! ### The line at a pair's turn -/

section
variable {q : Nat} {s : State} {e : Entry}

theorem testClaim_line (q : Nat) (s : State) :
    (s.testClaim q).line = s.line ∨ (s.testClaim q).line = s.line.submit (.claim q) := by
  unfold State.testClaim
  split
  · exact .inl rfl
  · split
    · exact .inr rfl
    · exact .inl rfl

/-- The coordinator withdraws a claim that stands, or submits one, and does nothing else to the line (R116, R133). -/
theorem coordinate_line (q : Nat) (before after : CandState) (s : State) :
    ∃ l, (l = s.line ∨ (s.entry q).any (fun e => e.ownership == .claiming) = true ∧ l = s.line.dropClaim q)
      ∧ ((s.coordinate q before after).line = l ∨ (s.coordinate q before after).line = l.submit (.claim q)) := by
  have withdrawn : (s.withdrawIfClaiming q).line = s.line
      ∨ (s.entry q).any (fun e => e.ownership == .claiming) = true ∧ (s.withdrawIfClaiming q).line = s.line.dropClaim q := by
    rw [withdrawIfClaiming_line]
    split
    · rename_i claiming
      exact .inr ⟨claiming, rfl⟩
    · exact .inl rfl
  unfold State.coordinate
  dsimp only
  refine ⟨_, ?_, testClaim_line q _⟩
  split
  · split
    · exact withdrawn
    · exact withdrawn
  · exact .inl rfl

/-- No pair's turn takes the outcome held for another (R119). -/
theorem handPair_held (x : Handed) (h : HeldOutcome) (other : h.peer ≠ q) (held : s.line.held = [h]) :
    (s.handPair q x).line.held = [h] := by
  obtain ⟨l, drop, submit⟩ := coordinate_line q x.before x.after s
  have kept : l.held = [h] := by
    rcases drop with rfl | ⟨-, rfl⟩
    · exact held
    · simp [Line.dropClaim, held, other]
  rw [handPair_line]
  rcases submit with same | same
  · rw [same, kept]
  · rw [same]
    exact kept

/-- W is as before at the turn of a pair that has no claim (R141). -/
theorem handPair_window (x : Handed) (found : s.entry q = some e) (quiet : e.ownership ≠ .claiming) :
    (s.handPair q x).line.window = s.line.window := by
  obtain ⟨l, drop, submit⟩ := coordinate_line q x.before x.after s
  have kept : l = s.line := drop.resolve_right fun ⟨claiming, _⟩ => by simp [found, quiet] at claiming
  rw [handPair_line]
  rcases submit with same | same <;> rw [same, kept]
  rfl

/-- A CLAIMING pair that does not clear: nothing of the line moves. -/
theorem handPair_line_of_claiming (x : Handed) (found : s.entry q = some e) (claiming : e.ownership = .claiming)
    (stays : x.after ≠ .clear) : (s.handPair q x).line = s.line := by
  rw [handPair_line, coordinate_of_stays (fun clears => stays clears.2), testClaim_of_entry found,
    if_neg (by simp [claiming])]

/-- A CLAIMING pair that clears: its claim is withdrawn (R133). -/
theorem handPair_line_of_cleared (distinct : s.StationsDistinct) (x : Handed) (found : s.entry q = some e)
    (claiming : e.ownership = .claiming) (was : x.before = .recovering) (clears : x.after = .clear)
    (stands : e.pair.state = .clear) : (s.handPair q x).line = s.line.dropClaim q := by
  have idle : e.release.pair.state.confirmedOrRecovering = false := by rw [Entry.release_pair, stands]; rfl
  rw [handPair_line, was, clears, coordinate_of_clears, testClaim_of_entry (released_entry distinct found), idle,
    if_neg (by simp), released_line, withdrawIfClaiming_line, if_pos (by simp [found, claiming])]

end

/-! ### The update of the candidates, pair by pair -/

/-- A property that each local hand-over and each pair's own turn keeps holds of what the update leaves. -/
theorem updateCandidates_induct {P : State → Prop} (own : Summary) {s : State} (distinct : s.StationsDistinct)
    (start : P (s.rescored own)) (locals : ∀ u x, P u → P (u.handLocal x))
    (pairs : ∀ v e, e ∈ s.table.entries → v.StationsDistinct →
      v.entry e.station = some (e.evaluate s.cfg.params.fightEffort own) → P v →
      P (v.handPair e.station (e.handed s.cfg.params.fightEffort own))) :
    P (s.updateCandidates own) := by
  rw [updateCandidates_eq]
  have begun := foldl_keeps (P := P) (f := fun u x => u.handLocal (LocalCandidate.handed s.cfg s.acq.frozen s.eval.epochChanged x))
    (fun u x h => locals u _ h) s.locals start
  have frame := localsHanded_frame s.cfg s.acq.frozen s.eval.epochChanged s.locals (s.rescored own)
  have table := localsHanded_table s.cfg s.acq.frozen s.eval.epochChanged s.locals (s.rescored own)
  generalize s.locals.foldl _ (s.rescored own) = u at begun frame table
  refine (foldl_split (P := fun done rest v => done ++ rest = s.table.entries ∧ P v
    ∧ v = done.foldl (fun u e => u.handPair e.station (e.handed s.cfg.params.fightEffort own)) u)
    (fun done e rest v ⟨split, h, now⟩ => ⟨by rw [← split]; simp, ?_, by rw [now, List.foldl_append]; rfl⟩)
    s.table.entries ⟨rfl, begun, rfl⟩).2.1
  obtain ⟨walked, entries⟩ := pairsHanded_table own distinct frame table split
  rw [← now] at walked entries
  have distinct_v : v.StationsDistinct := (frame.trans walked).stationsDistinct (by
    rw [State.StationsDistinct, rescored_stations]
    exact distinct)
  have found := distinct_v.entry_eq (e := e.evaluate s.cfg.params.fightEffort own) (by rw [entries]; simp)
  rw [Entry.evaluate_station] at found
  exact pairs v e (by rw [← split]; simp) distinct_v found h

/-! ### A CLAIMING pair in the published results -/

section
variable {s : State} {p : Nat} {e : Entry} (t : Nat) (distinct : s.StationsDistinct) (found : s.entry p = some e)

include distinct found

theorem published_entry :
    (s.published t).entry p = some (e.evaluated s.running s.cfg.params.fightEffort s.ownSummary) := by
  obtain ⟨mem, station⟩ := State.entry_spec found
  have table := updateCandidates_table s.ownSummary (s := s.judging t) distinct
  have stands : (s.published t).StationsDistinct := by
    change (((s.judging t).updateCandidates s.ownSummary).table.entries.map Entry.station).Nodup
    rw [table, List.map_map]
    simpa [Function.comp_def] using distinct
  have here := stands.entry_eq (e := e.evaluated s.running s.cfg.params.fightEffort s.ownSummary) (by
    change _ ∈ ((s.judging t).updateCandidates s.ownSummary).table.entries
    rw [table]
    exact List.mem_map_of_mem mem)
  rwa [Entry.evaluated_station, station] at here

variable (claiming : e.ownership = .claiming)

include claiming

/-- The claim of a pair that stays CONFIRMED or RECOVERING goes on, its held outcome with it. -/
theorem published_line_of_confirmed {h : HeldOutcome} (peer : h.peer = p) (held : s.line.held = [h])
    (stays : (e.evaluate s.cfg.params.fightEffort s.ownSummary).pair.state ≠ .clear) :
    (s.published t).line.held = [h] ∧ (s.published t).line.holds (.claim p) = s.line.holds (.claim p) := by
  have updated := updateCandidates_induct (s := s.judging t)
    (P := fun v => v.line.held = [h] ∧ v.line.holds (.claim p) = s.line.holds (.claim p)) s.ownSummary distinct ⟨held, rfl⟩
    (fun u x hu => by rwa [handLocal_line]) fun v f mem _ stands hv => by
      by_cases same : f.station = p
      · obtain rfl := distinct.eq_of_entry found mem same
        rwa [handPair_line_of_claiming _ stands ((Entry.evaluate_ownership ..).trans claiming) stays]
      · refine ⟨handPair_held _ h (peer ▸ Ne.symm same) hv.1, Eq.trans ?_ hv.2⟩
        rw [handPair_line]
        exact (coordinate_work f.station v _ _).only.holds_claim (Ne.symm same)
  exact ⟨(Line.submitDigest_counts _).2.trans updated.1, (Line.holds_claim_submitDigest p _).trans updated.2⟩

/-- W is as before where no other claim stands (R141). -/
theorem published_window_of_confirmed (alone : ∀ f ∈ s.table.entries, f.ownership = .claiming → f.station = p)
    (stays : (e.evaluate s.cfg.params.fightEffort s.ownSummary).pair.state ≠ .clear) :
    (s.published t).line.window = s.line.window := by
  have updated := updateCandidates_induct (s := s.judging t) (P := fun v => v.line.window = s.line.window) s.ownSummary
    distinct rfl (fun u x hu => by rwa [handLocal_line]) fun v f mem _ stands hv => by
      by_cases same : f.station = p
      · obtain rfl := distinct.eq_of_entry found mem same
        rwa [handPair_line_of_claiming _ stands ((Entry.evaluate_ownership ..).trans claiming) stays]
      · refine (handPair_window _ stands fun claims => same (alone f mem ?_)).trans hv
        rwa [Entry.evaluate_ownership] at claims
  exact (Line.submitDigest_counts _).1.trans updated

omit distinct claiming in
theorem rescored_entry (own : Summary) :
    (s.rescored own).entry p = some (e.evaluate s.cfg.params.fightEffort own) := by
  have mapped : (s.rescored own).entry p = (s.entry p).map (Entry.evaluate s.cfg.params.fightEffort own) := by
    simp [State.entry, NeighbourTable.find, State.rescored, List.find?_map]
  rw [mapped, found]
  rfl

/-- A pair that clears in a completion has no claim (R133). -/
theorem published_entry_of_cleared (runs : s.running = true) (recovering : e.pair.state = .recovering)
    (clears : (e.evaluate s.cfg.params.fightEffort s.ownSummary).pair.state = .clear) :
    (s.published t).entry p
      = some { e.evaluate s.cfg.params.fightEffort s.ownSummary with ownership := .unheld, claimAttempts := 0 } := by
  rw [published_entry t distinct found, runs, Entry.evaluated_released _ _ _
    ⟨recovering, clears, .inr ((Entry.evaluate_ownership ..).trans claiming)⟩, if_pos claiming]

/-- The claim of a pair that clears is withdrawn (R133). -/
theorem published_line_of_cleared (runs : s.running = true) (recovering : e.pair.state = .recovering)
    (clears : (e.evaluate s.cfg.params.fightEffort s.ownSummary).pair.state = .clear) :
    (s.published t).line.holds (.claim p) = false := by
  have begun : ((s.judging t).rescored s.ownSummary).entry p = _ := rescored_entry (s := s.judging t) found s.ownSummary
  have updated := updateCandidates_induct (s := s.judging t)
    (P := fun v => (v.entry p).any (fun e => e.ownership == .claiming) = true ∨ v.line.holds (.claim p) = false) s.ownSummary
    distinct (.inl (by rw [begun]; simpa [Entry.evaluate_ownership] using claiming))
    (fun u x hu => by rwa [handLocal_line, State.entry, handLocal_table]) fun v f fmem distinct_v stands hv => by
      by_cases same : f.station = p
      · obtain rfl := distinct.eq_of_entry found fmem same
        refine .inr ?_
        rw [handPair_line_of_cleared distinct_v _ stands ((Entry.evaluate_ownership ..).trans claiming)
          ((Entry.testedFrom_recovering _ _).mpr recovering) clears clears, same]
        exact (Line.holds_withdraw ..).trans (by simp)
      · rw [State.entry_update (handPair_table distinct_v _ _) fun e => e.coordinate_station _ _ _, if_neg (Ne.symm same)]
        refine hv.imp id fun free => Eq.trans ?_ free
        rw [handPair_line]
        exact (coordinate_work f.station v _ _).only.holds_claim (Ne.symm same)
  have here : ((s.judging t).updateCandidates s.ownSummary).entry p = _ :=
    published_entry_of_cleared t distinct found claiming runs recovering clears
  rw [here] at updated
  exact (Line.holds_claim_submitDigest p _).trans (updated.resolve_left (by simp))

end

end Sys2Proof.Machine
end

/-! The completion of an evaluation as a whole (R25, R26, R28, R29, R33, R163). -/

section
namespace Sys2Proof.Machine

/-! ### A held outcome in the published results -/

/-- The state in which the outcomes held are applied, none of them held any longer (R28). -/
def State.settling (t : Nat) (s : State) : State := (s.published t).modLine fun l => { l with held := [] }

/-- The same table and records, the claim for `p` in its place, and W. -/
structure SameClaim (p : Nat) (s t : State) : Prop where
  table : t.table = s.table
  findings : t.report.findings = s.report.findings
  flags : t.report.flags = s.report.flags
  holds : t.line.holds (.claim p) = s.line.holds (.claim p)
  window : t.line.window = s.line.window

section
variable {s : State} {p : Nat} (t : Nat)

/-- With no telegram waiting, what the outcomes leave stands at the end of the completion. -/
theorem completion_sameClaim (received : s.line.received = []) :
    SameClaim p (s.published t).applyHeld (s.completed t).access.driveLines := by
  have taken : (s.published t).applyHeld.takeReceived = (s.published t).applyHeld.modLine fun l => { l with received := [] } := by
    rw [State.takeReceived, (settled_course t s).received, received]
    rfl
  have only := access_onlyLine (s.completed t)
  obtain ⟨-, -, -, -, -, -, queue, window⟩ := access_line_course (s.completed t)
  rw [completed_published, taken] at *
  generalize (s.published t).applyHeld = u at *
  have announced : (u.report.findings.foldl Line.announce { u.line with received := [] }).window = u.line.window := by
    rw [announceAll_eq]
  exact ⟨only.table, only.findings, only.flags,
    (Line.holds_congr queue).trans ((announceAll_holds rfl _ _).trans (Line.holds_congr rfl)),
    window.trans announced⟩

theorem settled_loader (t : Nat) (s : State) : (s.published t).applyHeld.loader = s.loader :=
  (applyHeld_keepsCore _).loader.trans
    ((publish_keepsAll s.ownSummary _).loader.trans (updateCandidates_keeps s.ownSummary (s.judging t)).loader)

theorem settling_flags (t : Nat) (s : State) : (s.settling t).report.flags = s.report.flags :=
  updateCandidates_flags s.ownSummary (s.judging t)

theorem settling_epoch (t : Nat) (s : State) : (s.settling t).eval.epoch = s.decided.epoch := by
  have eval := (updateCandidates_frame s.ownSummary (s.judging t)).eval
  change ((s.judging t).updateCandidates s.ownSummary).eval.epoch = _
  rw [eval]
  rfl

/-- The record of a pair as the evaluation left it, its candidate CONFIRMED or RECOVERING (R69, R160). -/
def Finding.judged (g : Entry) (f : Finding) : Finding :=
  { f with status := if g.pair.state = .confirmed then .confirmed else .recovering, peak := max f.peak g.pair.score }

theorem Finding.judged_active (g : Entry) (f : Finding) : (f.judged g).status.isActive = true := by
  rw [Finding.judged]
  dsimp only
  split <;> rfl

variable {e : Entry} {o : AttemptEnd} (distinct : s.StationsDistinct) (found : s.entry p = some e)
  (claiming : e.ownership = .claiming) (held : s.line.held = [{ peer := p, outcome := o }]) (runs : s.running = true)

section
variable (stays : (e.evaluate s.cfg.params.fightEffort s.ownSummary).pair.state.confirmedOrRecovering = true)

include stays

theorem ne_clear_of_stays : (e.evaluate s.cfg.params.fightEffort s.ownSummary).pair.state ≠ .clear := fun clear => by
  rw [clear] at stays
  cases stays

include distinct found claiming

theorem settling_entry (runs : s.running = true) :
    (s.settling t).entry p = some (e.evaluate s.cfg.params.fightEffort s.ownSummary) := by
  refine (published_entry t distinct found).trans ?_
  rw [runs, Entry.evaluated_quiet _ _ _ (fun gone => ne_clear_of_stays stays gone.2.1) fun may => ?_]
  rw [Entry.MayClaim, Entry.evaluate_ownership, claiming] at may
  cases may.2

include held

theorem applyHeld_of_confirmed : (s.published t).applyHeld = (s.settling t).applyClaimOutcome p o := by
  rw [State.applyHeld, (published_line_of_confirmed t distinct found claiming rfl held (ne_clear_of_stays stays)).1]
  rfl

theorem settling_holds : (s.settling t).line.holds (.claim p) = s.line.holds (.claim p) :=
  (published_line_of_confirmed t distinct found claiming rfl held (ne_clear_of_stays stays)).2

omit held in
theorem settling_record (runs : s.running = true) (records : s.RecordsMatch) {f : Finding}
    (mem : f ∈ s.report.findings) (key : f.key = pairKey p)
    (reports : f.status.reports e.pair.state = true) :
    f.judged (e.evaluate s.cfg.params.fightEffort s.ownSummary) ∈ (s.settling t).report.findings := by
  obtain ⟨-, keyed, -, -, -, -⟩ := records
  obtain ⟨emem, station⟩ := State.entry_spec found
  have told := published_pair_turned t keyed distinct emem mem (station ▸ key) reports runs stays
  rw [if_neg (by rw [claiming]; nofun)] at told
  have status : (e.evaluate s.cfg.params.fightEffort s.ownSummary).pair.state.status
      = if (e.evaluate s.cfg.params.fightEffort s.ownSummary).pair.state = .confirmed then .confirmed else .recovering := by
    rcases confirmedOrRecovering_cases stays with now | now <;> rw [now] <;> rfl
  rw [status] at told
  exact told

end

include distinct found claiming held runs

/-- The outcome held for a pair that clears is discarded (R28, R124). -/
theorem applyHeld_of_cleared (recovering : e.pair.state = .recovering)
    (clears : (e.evaluate s.cfg.params.fightEffort s.ownSummary).pair.state = .clear) :
    (s.published t).applyHeld = s.settling t := by
  have entry : (s.settling t).entry p = _ := published_entry_of_cleared t distinct found claiming runs recovering clears
  have discarded : (s.settling t).applyClaimOutcome p o = s.settling t := if_neg (by simp [entry])
  rw [State.applyHeld]
  rcases List.sublist_singleton.mp (held ▸ (published_course t s).held) with none_ | one
  · rw [none_]
    rfl
  · rw [one]
    exact discarded

end

/-! ### The claim at the end of the completion -/

theorem Entry.evaluate_lastDigest (fight : Nat) (own : Summary) (e : Entry) :
    (e.evaluate fight own).lastDigest = e.lastDigest := by
  unfold Entry.evaluate Entry.checkReservation
  dsimp only
  split
  · split <;> rfl
  · rfl

section
variable {s t : State} {p : Nat} {g : Entry}

theorem SameClaim.entry (h : SameClaim p s t) : t.entry p = s.entry p := by rw [State.entry, h.table]; rfl

/-- A claim settled as HOLDER, seen at the end (R126, R127, R161). -/
theorem SameClaim.settled {u : State} {corroborated : Bool} (h : SameClaim p (u.settleHolder p corroborated) t)
    (found : u.entry p = some g) :
    t.entry p = some { g with ownership := .holder, claimAttempts := 0 } ∧ t.line.holds (.claim p) = false
      ∧ t.line.window = 8 ∧ t.report.flags = u.report.flags
      ∧ ∀ f ∈ u.report.findings, f.key = pairKey p → f.status.isActive = true → f.settled corroborated ∈ t.report.findings :=
  ⟨h.entry.trans (settleHolder_entry found corroborated), h.holds.trans (settleHolder_holds p corroborated u), h.window,
    h.flags, fun f mem key active => by
      rw [h.findings]
      exact settleHolder_record corroborated mem key active⟩

theorem flagTelegramDiscarded_entry (p : Nat) (s : State) : s.flagTelegramDiscarded.entry p = s.entry p := rfl

/-- A claim spent at its sixteenth attempt, seen at the end (R127, R146). -/
theorem SameClaim.spent {u : State} {lost : Bool}
    (h : SameClaim p ((u.claimCounted p lost).settleHolder p false).flagTelegramDiscarded t) (found : u.entry p = some g) :
    t.entry p = some { g with ownership := .holder, claimAttempts := 0 } ∧ t.line.holds (.claim p) = false
      ∧ t.line.window = 8 ∧ t.report.flags = { u.report.flags with telegramDiscarded := true }
      ∧ ∀ f ∈ u.report.findings, f.key = pairKey p → f.status.isActive = true → f.settled false ∈ t.report.findings := by
  have counted := claimCounted_entry found lost
  have findings : (u.claimCounted p lost).report = u.report := rfl
  generalize u.claimCounted p lost = v at h counted findings
  refine ⟨?_, h.holds.trans (settleHolder_holds p false v), h.window, ?_, fun f mem key active => ?_⟩
  · rw [h.entry, flagTelegramDiscarded_entry, settleHolder_entry counted false]
    rfl
  · rw [h.flags, ← findings]
    rfl
  · rw [h.findings]
    exact settleHolder_record (s := v) false (by rw [findings]; exact mem) key active

/-- A claim answered STALE, seen at the end (R72, R100, R128, R162). -/
theorem SameClaim.stale {u : State} (h : SameClaim p (u.settleStale p) t) (found : u.entry p = some g) :
    t.entry p = some (g.setBack u.eval.epoch) ∧ t.line.holds (.claim p) = false ∧ t.line.window = 8
      ∧ t.report.flags = u.report.flags
      ∧ ∀ f ∈ u.report.findings, f.key = pairKey p → f.status.isActive = true → f.withdrawn.done = false →
          f.withdrawn ∈ t.report.findings :=
  ⟨h.entry.trans (settleStale_entry found), h.holds.trans (leave_holds _ _), h.window, h.flags,
    fun f mem key active kept => by
      rw [h.findings, settleStale_report]
      exact mem_changeActive Finding.withdrawn_key mem key active kept⟩

end

/-- An outcome that loses the attempt (R125, R143). -/
theorem applyClaimOutcome_of_lost {s : State} {p : Nat} {g : Entry} {o : AttemptEnd} (found : s.entry p = some g)
    (claiming : g.ownership = .claiming) (lost : o = .repeatMark ∨ o = .contentionLoss) :
    s.applyClaimOutcome p o = if 16 ≤ g.claimAttempts + 1 then
        ((s.claimCounted p (o == .contentionLoss)).settleHolder p false).flagTelegramDiscarded
      else s.claimCounted p (o == .contentionLoss) := by
  rw [applyClaimOutcome_of_claiming found claiming]
  rcases lost with rfl | rfl
  · exact claimRetry_of_entry found false
  · exact claimRetry_of_entry found true

theorem claimCounted_window (p : Nat) (lost : Bool) (s : State) :
    (s.claimCounted p lost).line.window = if lost then min 64 (2 * s.line.window) else s.line.window := by
  cases lost <;> rfl

/-- Settles O18: the epoch decided, the queues emptied in order, and the outcome held for a claim applied to what the
evaluation leaves of its pair. -/
theorem evaluationCompletion : Obligations.EvaluationCompletion := by
  refine ⟨fun s T instant runs timers flight due => ?_, fun s runs evaluating => ?_,
    fun s p e o runs evaluating distinct found claiming received held => ?_⟩
  · have answer := execEvaluationCompletion_eq s runs flight
    obtain ⟨eval, -⟩ := completion_core instant s
    have core := completed_keepsCore instant s
    have only := access_onlyLine (s.completed instant)
    refine ⟨_, answer, ?_⟩
    rw [eval]
    refine ⟨epochCause_iff, rfl, rfl, rfl, rfl, rfl, rfl, rfl, rfl, ?_, only.loader.trans core.loader,
      only.pending.trans core.pending⟩
    rw [only.timers, core.timers, ← Timers.reach_of_le due, timers]
    rfl
  · obtain ⟨t, -, answer⟩ := exec_completion runs evaluating
    have acq := (access_onlyLine (s.completed t)).acq.trans (completed_keepsCore t s).acq
    obtain ⟨tracking, idle, mark, pending⟩ := completed_line_course t s
    obtain ⟨tracking', idle', mark', pending', received', held', queue', -⟩ := access_line_course (s.completed t)
    obtain ⟨held, received⟩ := completed_line t s
    have digest := ((applyHeld_tidy (s.published t)).trans (takeReceived_tidy _)).line.digest (published_digest t s)
    refine ⟨_, answer, received'.trans received, held'.trans held, ?_, acq, ?_, ?_, tracking'.trans tracking,
      idle'.trans idle, mark'.trans mark, pending'.trans pending, fun ⟨d, mem⟩ => ?_, completion_findingsQueued t s⟩
    · exact (Line.holds_congr queue').trans ((announceAll_holds rfl _ _).trans digest)
    · rw [acq]
      exact drainAll_fifo ..
    · rw [acq]
      exact drainAll_frozen ..
    · rw [(access_onlyLine _).table]
      have loader := settled_loader t s
      refine takeReceived_timer (s := (s.published t).applyHeld) (d := d) ?_ ?_
      · rw [← runs]
        simp only [State.running, State.stopped, loader]
      · rw [(settled_course t s).received, State.own, loader]
        exact mem
  · obtain ⟨t, -, answer⟩ := exec_completion runs evaluating
    obtain ⟨eval, -⟩ := completion_core t s
    have same := completion_sameClaim (p := p) t received
    have owner := (Entry.evaluate_ownership s.cfg.params.fightEffort s.ownSummary e).trans claiming
    have attempts := Entry.evaluate_claimAttempts s.cfg.params.fightEffort s.ownSummary e
    have lastDigest := Entry.evaluate_lastDigest s.cfg.params.fightEffort s.ownSummary e
    refine ⟨_, s.ownSummary, answer, by rw [eval], fun recovering clears => ?_, fun stays => ?_⟩
    · rw [applyHeld_of_cleared t distinct found claiming held runs recovering clears] at same
      exact ⟨same.entry.trans (published_entry_of_cleared t distinct found claiming runs recovering clears),
        same.holds.trans (published_line_of_cleared t distinct found claiming runs recovering clears)⟩
    have stands := settling_entry t distinct found claiming stays runs
    have flags := settling_flags t s
    have judged : s.RecordsMatch → ∀ f ∈ s.report.findings, f.key = pairKey p → f.status.reports e.pair.state = true → _ :=
      fun records f mem key reports => settling_record t distinct found claiming stays runs records mem key reports
    rw [applyHeld_of_confirmed t distinct found claiming held stays] at same
    refine ⟨fun settles => ?_, fun stale => ?_, fun lost => ⟨fun few => ?_, fun many => ?_⟩⟩
    · rw [applyClaimOutcome_of_claiming stands owner] at same
      rcases settles with rfl | rfl <;>
        obtain ⟨entry, place, window, told, records⟩ := same.settled stands <;>
        exact ⟨entry, place, window, told.trans flags, fun law f mem key reports _ =>
          records _ (judged law f mem key reports) key (f.judged_active _)⟩
    · rw [applyClaimOutcome_of_claiming stands owner, stale] at same
      obtain ⟨entry, place, window, told, records⟩ := same.stale stands
      rw [Entry.setBack, settling_epoch, lastDigest] at entry
      refine ⟨entry.trans (by rw [eval, lastDigest]), place, window, told.trans flags, fun law f mem key reports kept => ?_⟩
      refine records _ (judged law f mem key reports) key (f.judged_active _) ?_
      rw [← Bool.not_eq_true, done_iff]
      exact fun ⟨_, gone⟩ => kept.elim nofun fun h => h gone
    · rw [applyClaimOutcome_of_lost stands owner lost, attempts, if_neg (by omega)] at same
      refine ⟨?_, ?_, same.flags.trans flags, fun law f mem key reports _ => ?_, fun alone => ?_⟩
      · rw [same.entry, claimCounted_entry stands, Entry.count, attempts]
      · rw [same.holds, claimCounted_holds]
        exact settling_holds t distinct found claiming held stays
      · rw [same.findings]
        exact judged law f mem key reports
      · have width : (s.settling t).line.window = s.line.window :=
          published_window_of_confirmed t distinct found claiming alone (ne_clear_of_stays stays)
        rw [same.window, claimCounted_window, width]
        rcases lost with rfl | rfl <;> rfl
    · rw [applyClaimOutcome_of_lost stands owner lost, attempts, if_pos many] at same
      obtain ⟨entry, place, window, told, records⟩ := same.spent stands
      refine ⟨entry, place, window, told.trans (by rw [flags]), fun law f mem key reports _ => ?_⟩
      have settled := records _ (judged law f mem key reports) key (f.judged_active _)
      rwa [Finding.settled, Bool.or_false] at settled

end Sys2Proof.Machine
end
